-- ==== Sys2Proof/Word.lean ====
section
/-! DEFINITION. The word types of the block (spec/30_encoding.md R80, spec/10_state.md R22): plain bit
vectors, and nothing else. -/

namespace Sys2Proof

/-- An operation word, and a result the host port returns (R80, R36). -/
abbrev Word := BitVec 64

/-- A 16-bit register or operand: timers, counts, indices (R25, R26, R80). -/
abbrev Half := BitVec 16

/-- One entry of the Codec Buffer (R60). -/
abbrev Byte := BitVec 8

end Sys2Proof
end

