-- ==== Sys2Proof/Config.lean ====
section
/-! DEFINITION. What an implementation of the block fixes: the parameters of spec/00_scope.md R8 and their
constraints, and the free values, which nothing in Lean can evaluate. The parameters are an ARGUMENT of the
model: `Params` is plain data, a state carries it in `State.params`, no rule writes it, and a statement over
every state therefore holds for every parameter set. -/

namespace Sys2Proof

/-- Subcarrier mode (R27, R31 of spec/10_state.md; R107): 0 OFF, 1 OOK, 2 DIRECT. Code 3 is reserved and no
rule writes it (spec/93 U5), so it has no constructor (log entry 7). -/
inductive ScMode where
  | off | ook | direct
  deriving DecidableEq, Repr

/-- Type F line code (R8 `F_CODE`; R163, R164). -/
inductive FCode where
  | manchester | nrz
  deriving DecidableEq, Repr

/-- The parameters of R8. `N_IDLE` has one value for each protocol, as its two defaults do (log entry 4). -/
structure Params where
  /-- `F_CLK`, in Hz. No rule depends on it. -/
  fClk : Nat
  /-- `CAP`, entries of BUF and of PAR. -/
  cap : Nat
  /-- `T_BIT`. -/
  tBit : Half
  /-- `CC_SLOT`. -/
  ccSlot : Half
  /-- `SPB_F`. -/
  spbF : Nat
  /-- `T_SLOT_F`. -/
  tSlotF : Half
  /-- `T_FIRST_F`. -/
  tFirstF : Half
  /-- `F_CODE`. -/
  fCode : FCode
  /-- `F_ONE_FIRST_HALF_PAUSE`. -/
  fOneFirstHalfPause : Bool
  /-- `N_IDLE` of Type A. -/
  nIdleA : Byte
  /-- `N_IDLE` of Type F. -/
  nIdleF : Byte
  /-- `FDT_CLKS_0`. -/
  fdtClks0 : Half
  /-- `FDT_CLKS_1`. -/
  fdtClks1 : Half
  /-- `P_ALIGN`. -/
  pAlign : Half
  /-- `P_HALF_TX`. -/
  pHalfTx : Half
  /-- `SC_DIV`, the divider a reply uses. -/
  scDiv : Half
  /-- `SC_MODE_A`. -/
  scModeA : ScMode
  /-- `SC_MODE_F`. -/
  scModeF : ScMode
  /-- `TXF_INVERT`. -/
  txfInvert : Bool
  deriving DecidableEq, Repr

/-- The constraints of R8. "A parameter set that violates R8 has no model" (spec/40, section 2). -/
abbrev Params.valid (p : Params) : Prop :=
  (1 ≤ p.cap ∧ p.cap ≤ 4096) ∧
  (p.tBit.toNat % 2 = 0 ∧ 4 ≤ p.tBit.toNat ∧ p.tBit.toNat ≤ 65534) ∧
  (p.ccSlot.toNat < p.tBit.toNat / 2 ∧ p.ccSlot.toNat < p.tSlotF.toNat) ∧
  (p.spbF = 5 ∨ p.spbF = 6) ∧
  (2 ≤ p.tSlotF.toNat ∧ 2 ≤ p.tFirstF.toNat) ∧
  4 ≤ p.nIdleA.toNat ∧
  (p.fCode = .manchester → 2 * ((p.spbF + 1) / 2) + 1 ≤ p.nIdleF.toNat) ∧
  (2 ≤ p.pAlign.toNat ∧ 2 ≤ p.pHalfTx.toNat ∧ 1 ≤ p.scDiv.toNat)

/-- `MIN_FRAME_BITS` (R8): the one number the source gives for it. -/
def Config.minFrameBits : Nat := 7

/-- `SPB` of Type A (R8). -/
def Config.spbA : Nat := 2

/-- The parameter set State.reset is built with. The defaults are R8's; every OPEN value is a DESIGN CHOICE
(log entry 3), taken small like spec/95's illustrative sets. Only statements about `State.reset` itself see it. -/
def Config.resetParams : Params where
  fClk := 1
  cap := 8
  tBit := 8
  ccSlot := 1
  spbF := 6
  tSlotF := 2
  tFirstF := 12
  fCode := .manchester
  fOneFirstHalfPause := true
  nIdleA := 4
  nIdleF := 7
  fdtClks0 := 40
  fdtClks1 := 36
  pAlign := 3
  pHalfTx := 4
  scDiv := 2
  scModeA := .ook
  scModeF := .direct
  txfInvert := false

/-- Free value: what BUF entry `i` holds after power-on (R32, spec/93 U1, U3: "any value"; log entry 1). -/
opaque Config.bufPowerOn : Nat → Byte

/-- Free value: what PAR entry `i` holds after power-on (R32, spec/93 U1, U3: "any value"; log entry 1). -/
opaque Config.parPowerOn : Nat → Bool

/-- Free value: the sense pin in cycle `n` when no input of the run says it (spec/93 U12: "any value in each
cycle"; log entry 2). -/
opaque Config.freePin : Nat → Bool

end Sys2Proof
end

