-- ==== Sys2Proof/Syntax.lean ====
section
/-! DEFINITION. The operations of CMCORE-OP v1 (spec/30_encoding.md R82): one constructor for each row of
spec/opcode_table.json, with the row's operands. -/

namespace Sys2Proof

/-- `PROTO` (R23): 0 = A, 1 = F. -/
inductive Protocol where
  | typeA | typeF
  deriving DecidableEq, Repr

/-- `MT_MODE` (R26): 0 = MEASURE, 1 = PERIODIC. -/
inductive TimerMode where
  | measure | periodic
  deriving DecidableEq, Repr

/-- The three operation classes (R81). -/
inductive OpClass where
  | internal | event | host
  deriving DecidableEq, Repr

/-- One operation (R82). Operands stand in the order F, A, B of their fields. -/
inductive Instr where
  | tsArmSampling (period : Half)
  | tsScheduleNextSample (period : Half) (offset : Half)
  | tsDisarmSampling
  | tsArmModulation (mode : TimerMode) (period : Half)
  | tsDisarmModulation
  | tsSetModPeriod (period : Half)
  | tsLockFdt (last : Bool)
  | tsSetSubcarrier (mode : BitVec 2) (divider : Half)
  | tsSetLoadmod (active : Bool)
  | tsReadInput
  | tsSetEdgeIrq (enable : Bool)
  | tsSetSampleIrq (enable : Bool)
  | tsSetModIrq (enable : Bool)
  | evClk (pin : Bool)
  | evEdge
  | evSampleTick (level : Bool)
  | evModTick
  | lcInit (proto : Protocol)
  | lcDeinit
  | ctlRestartDemod
  | ctlArmReply (ownParity : Bool) (bits : Half)
  | ctlClearFlags (demod : Bool) (mod : Bool)
  | ctlReadStatus
  | bufRead (index : Half)
  | bufWrite (index : Half) (data : Byte)
  | parRead (index : Half)
  | parWrite (index : Half) (bit : Bool)
  deriving DecidableEq, Repr

/-- The class of an operation (R81). -/
def Instr.opClass : Instr → OpClass
  | .tsArmSampling _ | .tsScheduleNextSample _ _ | .tsDisarmSampling | .tsArmModulation _ _
  | .tsDisarmModulation | .tsSetModPeriod _ | .tsLockFdt _ | .tsSetSubcarrier _ _ | .tsSetLoadmod _
  | .tsReadInput | .tsSetEdgeIrq _ | .tsSetSampleIrq _ | .tsSetModIrq _ => .internal
  | .evClk _ | .evEdge | .evSampleTick _ | .evModTick => .event
  | .lcInit _ | .lcDeinit | .ctlRestartDemod | .ctlArmReply _ _ | .ctlClearFlags _ _ | .ctlReadStatus
  | .bufRead _ | .bufWrite _ _ | .parRead _ | .parWrite _ _ => .host

/-- Pseudo-operation `RESTART` (R88). -/
abbrev Instr.pseudoRestart : Instr := .ctlRestartDemod

/-- Pseudo-operation `ACK_DEMOD` (R88). -/
abbrev Instr.pseudoAckDemod : Instr := .ctlClearFlags true false

/-- Pseudo-operation `ACK_MOD` (R88). -/
abbrev Instr.pseudoAckMod : Instr := .ctlClearFlags false true

end Sys2Proof
end

