-- ==== Sys2Proof/WellFormed.lean ====
section
/-! DEFINITION. The operand forms of spec/30_encoding.md R83 as a check on an instruction. The operands R83
leaves to another rule (bits of CTL_ARM_REPLY, an index) depend on the state and are checked there. -/

namespace Sys2Proof

/-- `period`: 2..65535. -/
def legalPeriod (p : Half) : Bool := decide (2 ≤ p.toNat)

/-- `offset`: 0..period-1, or NO_MATCH (0xFFFF). -/
def legalOffset (p o : Half) : Bool := decide (o.toNat < p.toNat) || o == 0xFFFF

/-- R83's operand forms, and R113's: a MEASURE arm has period 0 (log entry 9). -/
def Instr.wellFormed : Instr → Bool
  | .tsArmSampling p => legalPeriod p
  | .tsScheduleNextSample p o => legalPeriod p && legalOffset p o
  | .tsArmModulation .measure p => p == 0
  | .tsArmModulation .periodic p => legalPeriod p
  | .tsSetModPeriod p => legalPeriod p
  | .tsSetSubcarrier m d => m != 3 && d != 0
  | .tsDisarmSampling | .tsDisarmModulation | .tsLockFdt _ | .tsSetLoadmod _ | .tsReadInput
  | .tsSetEdgeIrq _ | .tsSetSampleIrq _ | .tsSetModIrq _
  | .evClk _ | .evEdge | .evSampleTick _ | .evModTick
  | .lcInit _ | .lcDeinit | .ctlRestartDemod | .ctlArmReply _ _ | .ctlClearFlags _ _ | .ctlReadStatus
  | .bufRead _ | .bufWrite _ _ | .parRead _ | .parWrite _ _ => true

end Sys2Proof
end

