-- ==== Sys2Proof/Decode.lean ====
section
/-! DEFINITION. The operation word (spec/30_encoding.md R80 to R85): its fields, the decoder, total on every
64-bit word and refusing by name, and the encoder written from the same table. -/

namespace Sys2Proof

/-- `OPC` = w[63:56] (R80). -/
def fieldOpc (w : Word) : BitVec 8 := w.extractLsb' 56 8

/-- `F` = w[55:48] (R80). -/
def fieldF (w : Word) : BitVec 8 := w.extractLsb' 48 8

/-- `A` = w[47:32] (R80). -/
def fieldA (w : Word) : Half := w.extractLsb' 32 16

/-- `B` = w[31:16] (R80). -/
def fieldB (w : Word) : Half := w.extractLsb' 16 16

/-- `R` = w[15:0] (R80). -/
def fieldR (w : Word) : Half := w.extractLsb' 0 16

/-- Why a word is no operation (R85, R285). -/
inductive DecodeError where
  | illegalOpcode
  | reservedNonzero
  deriving DecidableEq, Repr

/-- The class of an opcode (R81, R82); none for the illegal codes of R85, 0x22 among them. -/
def opcodeClass (opc : BitVec 8) : Option OpClass :=
  let o := opc.toNat
  if 0x01 ≤ o && o ≤ 0x0D then some .internal
  else if 0x10 ≤ o && o ≤ 0x13 then some .event
  else if 0x20 ≤ o && o ≤ 0x2A && o != 0x22 then some .host
  else none

/-- The class of the opcode of a word. -/
def wordClass (w : Word) : Option OpClass := opcodeClass (fieldOpc w)

/-- A row's bits of F, A and B. Every other bit below OPC is unused and must be 0 (R80, R82;
log entry 19). -/
def ifUnusedZero (w : Word) (usedF : BitVec 8) (usedA usedB : Half) (i : Instr) : Except DecodeError Instr :=
  if (fieldF w &&& ~~~usedF) == 0 && (fieldA w &&& ~~~usedA) == 0 && (fieldB w &&& ~~~usedB) == 0
      && fieldR w == 0 then .ok i else .error .reservedNonzero

/-- F[k]. -/
def flagBit (w : Word) (k : Nat) : Bool := (fieldF w).getLsbD k

/-- `mode` of TS_ARM_MODULATION: 0 MEASURE, 1 PERIODIC (R82). -/
def timerModeOfBit (b : Bool) : TimerMode := if b then .periodic else .measure

/-- `proto` of LC_INIT: 0 A, 1 F (R82). -/
def protocolOfBit (b : Bool) : Protocol := if b then .typeF else .typeA

/-- The decoder (R80, R82, R85): one line for each row of the opcode map. -/
def decode (w : Word) : Except DecodeError Instr :=
  let a := fieldA w
  let b := fieldB w
  match (fieldOpc w).toNat with
  | 0x01 => ifUnusedZero w 0x00 0xFFFF 0x0000 (.tsArmSampling a)
  | 0x02 => ifUnusedZero w 0x00 0xFFFF 0xFFFF (.tsScheduleNextSample a b)
  | 0x03 => ifUnusedZero w 0x00 0x0000 0x0000 .tsDisarmSampling
  | 0x04 => ifUnusedZero w 0x01 0xFFFF 0x0000 (.tsArmModulation (timerModeOfBit (flagBit w 0)) a)
  | 0x05 => ifUnusedZero w 0x00 0x0000 0x0000 .tsDisarmModulation
  | 0x06 => ifUnusedZero w 0x00 0xFFFF 0x0000 (.tsSetModPeriod a)
  | 0x07 => ifUnusedZero w 0x01 0x0000 0x0000 (.tsLockFdt (flagBit w 0))
  | 0x08 => ifUnusedZero w 0x03 0xFFFF 0x0000 (.tsSetSubcarrier ((fieldF w).extractLsb' 0 2) a)
  | 0x09 => ifUnusedZero w 0x01 0x0000 0x0000 (.tsSetLoadmod (flagBit w 0))
  | 0x0A => ifUnusedZero w 0x00 0x0000 0x0000 .tsReadInput
  | 0x0B => ifUnusedZero w 0x01 0x0000 0x0000 (.tsSetEdgeIrq (flagBit w 0))
  | 0x0C => ifUnusedZero w 0x01 0x0000 0x0000 (.tsSetSampleIrq (flagBit w 0))
  | 0x0D => ifUnusedZero w 0x01 0x0000 0x0000 (.tsSetModIrq (flagBit w 0))
  | 0x10 => ifUnusedZero w 0x01 0x0000 0x0000 (.evClk (flagBit w 0))
  | 0x11 => ifUnusedZero w 0x00 0x0000 0x0000 .evEdge
  | 0x12 => ifUnusedZero w 0x01 0x0000 0x0000 (.evSampleTick (flagBit w 0))
  | 0x13 => ifUnusedZero w 0x00 0x0000 0x0000 .evModTick
  | 0x20 => ifUnusedZero w 0x01 0x0000 0x0000 (.lcInit (protocolOfBit (flagBit w 0)))
  | 0x21 => ifUnusedZero w 0x00 0x0000 0x0000 .lcDeinit
  | 0x23 => ifUnusedZero w 0x00 0x0000 0x0000 .ctlRestartDemod
  | 0x24 => ifUnusedZero w 0x01 0xFFFF 0x0000 (.ctlArmReply (flagBit w 0) a)
  | 0x25 => ifUnusedZero w 0x03 0x0000 0x0000 (.ctlClearFlags (flagBit w 0) (flagBit w 1))
  | 0x26 => ifUnusedZero w 0x00 0x0000 0x0000 .ctlReadStatus
  | 0x27 => ifUnusedZero w 0x00 0xFFFF 0x0000 (.bufRead a)
  | 0x28 => ifUnusedZero w 0x00 0xFFFF 0x00FF (.bufWrite a (b.extractLsb' 0 8))
  | 0x29 => ifUnusedZero w 0x00 0xFFFF 0x0000 (.parRead a)
  | 0x2A => ifUnusedZero w 0x00 0xFFFF 0x0001 (.parWrite a (b.getLsbD 0))
  | _ => .error .illegalOpcode

/-- The word with fields OPC, F, A, B and R = 0 (R80). -/
def packWord (opc f : BitVec 8) (a b : Half) : Word := opc ++ f ++ a ++ b ++ (0 : Half)

/-- A flag operand in F[0] (R82). -/
def flagField (b : Bool) : BitVec 8 := (BitVec.ofBool b).zeroExtend 8

/-- `mode` of TS_ARM_MODULATION as a bit (R82). -/
def timerModeBit : TimerMode → Bool
  | .measure => false
  | .periodic => true

/-- `proto` of LC_INIT as a bit (R82). -/
def protocolBit : Protocol → Bool
  | .typeA => false
  | .typeF => true

/-- The encoder (R82): the word of an operation. -/
def encode : Instr → Word
  | .tsArmSampling p => packWord 0x01 0 p 0
  | .tsScheduleNextSample p o => packWord 0x02 0 p o
  | .tsDisarmSampling => packWord 0x03 0 0 0
  | .tsArmModulation m p => packWord 0x04 (flagField (timerModeBit m)) p 0
  | .tsDisarmModulation => packWord 0x05 0 0 0
  | .tsSetModPeriod p => packWord 0x06 0 p 0
  | .tsLockFdt b => packWord 0x07 (flagField b) 0 0
  | .tsSetSubcarrier m d => packWord 0x08 (m.zeroExtend 8) d 0
  | .tsSetLoadmod b => packWord 0x09 (flagField b) 0 0
  | .tsReadInput => packWord 0x0A 0 0 0
  | .tsSetEdgeIrq b => packWord 0x0B (flagField b) 0 0
  | .tsSetSampleIrq b => packWord 0x0C (flagField b) 0 0
  | .tsSetModIrq b => packWord 0x0D (flagField b) 0 0
  | .evClk b => packWord 0x10 (flagField b) 0 0
  | .evEdge => packWord 0x11 0 0 0
  | .evSampleTick b => packWord 0x12 (flagField b) 0 0
  | .evModTick => packWord 0x13 0 0 0
  | .lcInit p => packWord 0x20 (flagField (protocolBit p)) 0 0
  | .lcDeinit => packWord 0x21 0 0 0
  | .ctlRestartDemod => packWord 0x23 0 0 0
  | .ctlArmReply o n => packWord 0x24 (flagField o) n 0
  | .ctlClearFlags d m => packWord 0x25 ((BitVec.ofBool m ++ BitVec.ofBool d).zeroExtend 8) 0 0
  | .ctlReadStatus => packWord 0x26 0 0 0
  | .bufRead i => packWord 0x27 0 i 0
  | .bufWrite i d => packWord 0x28 0 i (d.zeroExtend 16)
  | .parRead i => packWord 0x29 0 i 0
  | .parWrite i v => packWord 0x2A 0 i ((BitVec.ofBool v).zeroExtend 16)

/-- The instruction the decoder reads from a word numbered as spec/opcode_table.json numbers it: bit 0 is the
least significant bit of the one 64-bit word, and the bits above `nbits` are 0. -/
def decodeTableWord (nbits w : Nat) : Option Instr :=
  if nbits ≤ 64 && w < 2 ^ nbits then
    match decode (BitVec.ofNat 64 w) with
    | .ok i => some i
    | .error _ => none
  else none

end Sys2Proof
end

