-- ==== Sys2Proof/Machine/State.lean ====
section
/-! DEFINITION. The state of the block, as plain data: every register of spec/10_state.md R23 to R30, the two
memories (R32), the model's own FAULTS and cycle number (R33), and what the model keeps for the outside
world: the parameters (R8), the host port, the per-cycle signals of R101 and the inputs not yet taken. -/

namespace Sys2Proof.Machine

/-- `DEMOD_STATE` (R28, codes R86). -/
inductive DemodState where
  | awaitingFieldEdge | samplingDataBit | samplingParityBit | frameComplete
  deriving DecidableEq, Repr

/-- `LM_STATE` (R29, codes R86). `outOfRange l` is the code 12 + l of R212 (log entry 22). -/
inductive LmState where
  | idle | frameDelayWait | bitGridAlign | startBit0 | startBit1 | dataBit0 | dataBit1
  | parityBit0 | parityBit1 | stopBit0 | stopBit1 | finished
  | outOfRange (low : BitVec 2)
  deriving DecidableEq, Repr

/-- `LAST_KIND` (R28). -/
inductive LastKind where
  | none | data | parity | pending
  deriving DecidableEq, Repr

/-- `ERR_CAUSE` (R28). Code 3 is reserved and no rule writes it (spec/93 U4), so it has no constructor
(log entry 7). -/
inductive ErrCause where
  | none | garbage | overflow
  deriving DecidableEq, Repr

/-- The reasons of a model fault (R285). -/
inductive FaultReason where
  | illegalOpcode | notHostOp | reservedNonzero | notEnabled | alreadyEnabled | badOperand
  | badReplyCount | addressRange | ownership | armNotReady
  deriving DecidableEq, Repr

/-- One record of FAULTS (R33, R285). -/
structure FaultRecord where
  reason : FaultReason
  cycle : Nat
  word : Word
  deriving DecidableEq, Repr

/-- The Sampling Timer (R25). -/
structure SamplingTimer where
  /-- ST_EN -/
  en : Bool
  /-- ST_CNT -/
  cnt : Half
  /-- ST_PER -/
  per : Half
  /-- ST_CC -/
  cc : Half
  /-- ST_PER_BUF -/
  perBuf : Half
  /-- ST_CC_BUF -/
  ccBuf : Half
  /-- ST_BUF_V -/
  bufV : Bool
  /-- ST_RESTART_EN -/
  restartEn : Bool
  /-- SAMPLE_IE -/
  sampleIe : Bool
  deriving DecidableEq, Repr

/-- The Modulation Timer (R26). -/
structure ModTimer where
  /-- MT_EN -/
  en : Bool
  /-- MT_MODE -/
  mode : TimerMode
  /-- MT_CNT -/
  cnt : Half
  /-- MT_PER -/
  per : Half
  /-- MT_CMP -/
  cmp : Half
  /-- MT_CAP -/
  cap : Half
  /-- MT_CAP_EN -/
  capEn : Bool
  /-- MOD_IE -/
  modIe : Bool
  deriving DecidableEq, Repr

/-- The output registers and the subcarrier generator (R27). -/
structure OutputStage where
  /-- LOADMOD -/
  loadmod : Bool
  /-- SC_MODE -/
  scMode : ScMode
  /-- SC_DIV -/
  scDiv : Half
  /-- SC_CNT -/
  scCnt : Half
  /-- SC_LVL -/
  scLvl : Bool
  deriving DecidableEq, Repr

/-- The Demodulator registers (R28). -/
structure Demod where
  /-- DEMOD_STATE -/
  state : DemodState
  /-- SSR -/
  ssr : BitVec 8
  /-- SSR_LEN -/
  ssrLen : BitVec 3
  /-- IDLE_CNT -/
  idleCnt : BitVec 8
  /-- BIT_COUNT -/
  bitCount : Half
  /-- PAR_COUNT -/
  parCount : Half
  /-- LASTBIT -/
  lastBit : Bool
  /-- PREVBIT -/
  prevBit : Bool
  /-- LAST_KIND -/
  lastKind : LastKind
  /-- ERR_CAUSE -/
  errCause : ErrCause
  deriving DecidableEq, Repr

/-- The Load-Modulator registers (R29). -/
structure LoadMod where
  /-- LM_STATE -/
  state : LmState
  /-- TX_BITS -/
  txBits : Half
  /-- TX_POS -/
  txPos : Half
  /-- TX_CUR -/
  txCur : Bool
  /-- TX_ACC -/
  txAcc : Bool
  /-- TX_OWNPAR -/
  txOwnPar : Bool
  deriving DecidableEq, Repr

/-- The per-cycle signals of R101, "not state": false between two cycles (log entry 16). -/
structure CycleSignals where
  /-- ST_FRESH -/
  stFresh : Bool
  /-- ST_WRAP -/
  stWrap : Bool
  /-- MT_WRAP -/
  mtWrap : Bool
  deriving DecidableEq, Repr

/-- The two views of the machine (R84, R109): cycles of CLK, or handlers without timers (log entry 17). -/
inductive View where
  | cycleLevel | eventLevel
  deriving DecidableEq, Repr

/-- What the Application Processor oracle answers (R252). -/
inductive ApResponse where
  | noResponse
  | reply (bits : Half) (ownParity : Bool)
  deriving DecidableEq, Repr

/-- Where the Codec Controller stands inside its TASK (R251; log entry 20). -/
inductive TaskPhase where
  /-- No poll is under way. -/
  | idle
  /-- CTL_RESTART_DEMOD is the next word. -/
  | restartDue
  /-- `AP.process` has been called with this bit count and has not answered. -/
  | awaitingAp (bitCount : Half)
  /-- CTL_ARM_REPLY is the next word. -/
  | replyDue (bits : Half) (ownParity : Bool)
  deriving DecidableEq, Repr

/-- One input of the outside world (R7, R84, R100). -/
inductive Stimulus where
  /-- One cycle: the sense pin, and the host operation of the cycle if there is one (R100). -/
  | cycle (pin : Bool) (hop : Option Word)
  /-- A word on the harness port (R84). -/
  | harness (w : Word)
  /-- A word on the host port: at the cycle level in a cycle of its own with the pin held (spec/92 D52;
  log entry 21). -/
  | host (w : Word)
  /-- A word of a replayed trace (R285 BAD_OPERAND, R293; log entry 15). -/
  | replay (w : Word)
  /-- One cycle in which the Codec Controller takes the next turn of its TASK (R251). -/
  | task (pin : Bool)
  /-- The Application Processor answers (R252). -/
  | answer (r : ApResponse)
  deriving DecidableEq, Repr

/-- Sparse data by index, in one canonical form (`Memory.wf` in Machine/Ops.lean): an entry for each index
that has been written. An index with no entry still holds its power-on value (log entry 1). -/
abbrev Memory (α : Type) := List (Nat × α)

structure State where
  /-- ENABLED (R23) -/
  enabled : Bool
  /-- PROTO (R23) -/
  proto : Protocol
  /-- SENSE, the input pin, as the last cycle saw it (R24) -/
  sense : Bool
  /-- SYNC1 (R24) -/
  sync1 : Bool
  /-- SYNC2 (R24) -/
  sync2 : Bool
  /-- the Sampling Timer (R25) -/
  st : SamplingTimer
  /-- the Modulation Timer (R26) -/
  mt : ModTimer
  /-- EDGE_IE (R27) -/
  edgeIe : Bool
  /-- LOADMOD and the subcarrier generator (R27) -/
  out : OutputStage
  /-- the Demodulator (R28) -/
  dm : Demod
  /-- the Load-Modulator (R29) -/
  lm : LoadMod
  /-- DEMOD_DONE (R30) -/
  demodDone : Bool
  /-- MOD_DONE (R30) -/
  modDone : Bool
  /-- BUF, the Codec Buffer (R32) -/
  buf : Memory Byte
  /-- PAR, the Parity Buffer (R32) -/
  par : Memory Bool
  /-- FAULTS (R33), the oldest record first -/
  faults : List FaultRecord
  /-- the cycle number (R33) -/
  cycle : Nat
  /-- the model's own: the parameters (R8), which no rule writes -/
  params : Params
  /-- the model's own: ST_FRESH, ST_WRAP, MT_WRAP (R101) -/
  sig : CycleSignals
  /-- the model's own: the host port, the host operation of the cycle being run (R100) -/
  hop : Option Word
  /-- the model's own: the result of the last operation that returned one (R240, R120; log entry 8) -/
  result : Word
  /-- the model's own: which view is being run (R84, R109) -/
  view : View
  /-- the model's own: the Codec Controller's place in TASK (R251) -/
  task : TaskPhase
  /-- the model's own: the inputs not yet taken, the next one first -/
  inputs : List Stimulus
  deriving DecidableEq, Repr

/-- What stops the machine. A model fault of R285 does NOT: it is a record in `State.faults`, and the run
goes on. -/
inductive Fault where
  /-- A handler of the block formed a BUF index ≥ CAP, an entry that does not exist (R63: "never forms
  such an index"). Raised by emit, retract and the DATA_BIT_0 tick, only in states no run from POR
  reaches (log entry 14). Safe. -/
  | bufIndex
  /-- The same for PAR: raised by emit, retract and the PARITY_BIT_0 tick. Safe. -/
  | parIndex
  deriving DecidableEq, Repr

/-- Inputs the spec gives no behaviour. Each is about the PORT a word comes by, never about an
instruction (log entry 18). -/
inductive Refusal where
  /-- An instruction of the table with no meaning yet. Raised by exec alone. Safe. -/
  | notModelled (mnemonic : String)
  /-- EV_EDGE, EV_SAMPLE_TICK or EV_MOD_TICK from the harness at the cycle level, which R84 says a model
  "must not accept". Raised by the harness port. Safe. -/
  | eventAtCycleLevel
  /-- A HOST or INTERNAL word on the harness port, which R84 does not list there. Raised by the harness
  port. Safe. -/
  | notHarnessOp
  /-- A HOST or EVENT word in a trace of INTERNAL words. Raised by the replay. Safe. -/
  | notReplayOp
  /-- An answer of the Application Processor that no TASK has asked for (R252). Safe. -/
  | unaskedAnswer
  deriving DecidableEq, Repr

/-- The POR column of R25. -/
def SamplingTimer.por : SamplingTimer where
  en := false
  cnt := 0
  per := 0xFFFF
  cc := 0xFFFF
  perBuf := 0
  ccBuf := 0
  bufV := false
  restartEn := false
  sampleIe := false

/-- The POR column of R26. -/
def ModTimer.por : ModTimer where
  en := false
  mode := .measure
  cnt := 0
  per := 0xFFFF
  cmp := 0
  cap := 0
  capEn := false
  modIe := false

/-- The POR column of R27. -/
def OutputStage.por : OutputStage where
  loadmod := false
  scMode := .off
  scDiv := 1
  scCnt := 0
  scLvl := false

/-- The POR column of R28. -/
def Demod.por : Demod where
  state := .awaitingFieldEdge
  ssr := 0
  ssrLen := 0
  idleCnt := 0
  bitCount := 0
  parCount := 0
  lastBit := false
  prevBit := false
  lastKind := .none
  errCause := .none

/-- The POR column of R29. -/
def LoadMod.por : LoadMod where
  state := .idle
  txBits := 0
  txPos := 0
  txCur := false
  txAcc := true
  txOwnPar := false

/-- No signal is set between two cycles. -/
def CycleSignals.clear : CycleSignals where
  stFresh := false
  stWrap := false
  mtWrap := false

/-- The block after power-on reset (R310), built with parameters `p`. `sense` is not the block's to reset:
spec/92 D52 holds the pin at 1 before a program's first line (log entry 5). -/
def State.por (p : Params) : State where
  enabled := false
  proto := .typeA
  sense := true
  sync1 := false
  sync2 := false
  st := .por
  mt := .por
  edgeIe := false
  out := .por
  dm := .por
  lm := .por
  demodDone := false
  modDone := false
  buf := []
  par := []
  faults := []
  cycle := 0
  params := p
  sig := .clear
  hop := none
  result := 0
  view := .cycleLevel
  task := .idle
  inputs := []

/-- The block after power-on reset (R310). -/
def State.reset : State := State.por Config.resetParams

end Sys2Proof.Machine
end

