-- ==== Sys2Proof/Machine/Operands.lean ====
section
/-! DEFINITION. Operand forms (spec/30_encoding.md R83), the parameters of the selected protocol
(spec/00_scope.md R8, R9), and how a frame bit is found in BUF (spec/20_memory.md R62). -/

namespace Sys2Proof.Machine

/-- `period`: 2..65535 (R83). -/
def periodOk (p : Half) : Bool := decide (2 ≤ p.toNat)

/-- `offset`: 0..period-1, or NO_MATCH (R83). -/
def offsetOk (p o : Half) : Bool := decide (o.toNat < p.toNat) || o == 0xFFFF

/-- `period` of TS_ARM_MODULATION: a period when PERIODIC, 0 when MEASURE (R113; log entry 9). -/
def modArmOk : TimerMode → Half → Bool
  | .measure, p => p == 0
  | .periodic, p => periodOk p

/-- `divider`: at least 1 (R83). -/
def dividerOk (d : Half) : Bool := d != 0

/-- `mode` of TS_SET_SUBCARRIER: 0 OFF, 1 OOK, 2 DIRECT; 3 has no meaning (R83). -/
def scModeOfCode (m : BitVec 2) : Option ScMode :=
  if m == 0 then some .off else if m == 1 then some .ook else if m == 2 then some .direct else none

/-- NO_MATCH (R25). -/
def noMatch : Half := 0xFFFF

/-- T_SLOT_A = T_BIT / 2 (R8). -/
def Params.tSlotA (p : Params) : Half := BitVec.ofNat 16 (p.tBit.toNat / 2)

/-- T_SLOT of the selected protocol (R9). -/
def State.tSlot (s : State) : Half :=
  match s.proto with
  | .typeA => Params.tSlotA s.params
  | .typeF => s.params.tSlotF

/-- T_FIRST of the selected protocol (R9); T_FIRST_A = T_BIT (R8). -/
def State.tFirst (s : State) : Half :=
  match s.proto with
  | .typeA => s.params.tBit
  | .typeF => s.params.tFirstF

/-- SPB of the selected protocol (R8). -/
def State.spb (s : State) : Nat :=
  match s.proto with
  | .typeA => Config.spbA
  | .typeF => s.params.spbF

/-- N_IDLE of the selected protocol (R8; log entry 4). -/
def State.nIdle (s : State) : Byte :=
  match s.proto with
  | .typeA => s.params.nIdleA
  | .typeF => s.params.nIdleF

/-- BITCAP (R9). -/
def State.bitcap (s : State) : Nat :=
  match s.proto with
  | .typeA => 8 * s.params.cap
  | .typeF => s.params.cap

/-- FDT_CLKS_b (R116). -/
def State.fdtClks (s : State) (last : Bool) : Half :=
  if last then s.params.fdtClks1 else s.params.fdtClks0

/-- The subcarrier mode of a reply (R243). -/
def State.replyScMode (s : State) : ScMode :=
  match s.proto with
  | .typeA => s.params.scModeA
  | .typeF => s.params.scModeF

/-- The BUF index that holds frame bit `n` (R62). -/
def State.bitIndex (s : State) (n : Half) : Nat :=
  match s.proto with
  | .typeA => n.toNat / 8
  | .typeF => n.toNat

/-- The bit of that entry which is frame bit `n` (R62). -/
def State.bitOffset (s : State) (n : Half) : Nat :=
  match s.proto with
  | .typeA => n.toNat % 8
  | .typeF => 0

/-- The PAR index of the byte that ends at frame bit `n`: n div 8 - 1 (R171, R207). -/
def parIndexOf (n : Half) : Half := BitVec.ofNat 16 (n.toNat / 8) - 1

/-- `v` with bit `j` set to `b` and its other bits unchanged (R12). -/
def withBit (v : Byte) (j : Nat) (b : Bool) : Byte :=
  if b then v ||| ((1 : Byte) <<< j) else v &&& ~~~((1 : Byte) <<< j)

/-- zext_8 of a bit (R170). -/
def byteOfBit (b : Bool) : Byte := (BitVec.ofBool b).zeroExtend 8

/-- zext_64 of a bit (R249, R120). -/
def wordOfBit (b : Bool) : Word := (BitVec.ofBool b).zeroExtend 64

end Sys2Proof.Machine
end

