-- ==== Sys2Proof/Machine/Flags.lean ====
section
/-! DEFINITION. The completion flags, the codes of the state registers and the STATUS word
(spec/10_state.md R30, R36; spec/30_encoding.md R86), and every bit a handler computes: the running parity
(R205, R208) and the classifiers of the sample window (spec/41_demodulator.md R161 to R164). -/

namespace Sys2Proof.Machine

/-- R86. -/
def demodStateCode : DemodState → BitVec 2
  | .awaitingFieldEdge => 0
  | .samplingDataBit => 1
  | .samplingParityBit => 2
  | .frameComplete => 3

/-- R86. -/
def lmStateCode : LmState → BitVec 4
  | .idle => 0
  | .frameDelayWait => 1
  | .bitGridAlign => 2
  | .startBit0 => 3
  | .startBit1 => 4
  | .dataBit0 => 5
  | .dataBit1 => 6
  | .parityBit0 => 7
  | .parityBit1 => 8
  | .stopBit0 => 9
  | .stopBit1 => 10
  | .finished => 11
  | .outOfRange low => (3 : BitVec 2) ++ low

/-- R28. -/
def errCauseCode : ErrCause → BitVec 2
  | .none => 0
  | .garbage => 1
  | .overflow => 2

/-- R27. -/
def scModeCode : ScMode → BitVec 2
  | .off => 0
  | .ook => 1
  | .direct => 2

/-- The STATUS word, from bit 63 down to bit 0 (R36). -/
def State.status (s : State) : Word :=
  s.lm.txPos ++ s.dm.parCount ++ s.dm.bitCount ++ (0 : BitVec 1) ++ scModeCode s.out.scMode
    ++ BitVec.ofBool s.out.loadmod ++ BitVec.ofBool (protocolBit s.proto) ++ BitVec.ofBool s.enabled
    ++ lmStateCode s.lm.state ++ demodStateCode s.dm.state ++ errCauseCode s.dm.errCause
    ++ BitVec.ofBool s.modDone ++ BitVec.ofBool s.demodDone

/-- DEMOD_DONE of a STATUS word (R36). -/
def statusDemodDone (w : Word) : Bool := w.getLsbD 0

/-- MOD_DONE of a STATUS word (R36). -/
def statusModDone (w : Word) : Bool := w.getLsbD 1

/-- ERR_CAUSE of a STATUS word (R36). -/
def statusErrCause (w : Word) : BitVec 2 := w.extractLsb' 2 2

/-- BIT_COUNT of a STATUS word (R36). -/
def statusBitCount (w : Word) : Half := w.extractLsb' 16 16

/-- CTL_CLEAR_FLAGS on the two flags (R245). -/
def State.clearFlags (s : State) (demod mod : Bool) : State :=
  { s with demodDone := s.demodDone && !demod, modDone := s.modDone && !mod }

/-- TX_ACC after one more data bit (R205). -/
def accumulate (acc b : Bool) : Bool := acc ^^ b

/-- TX_ACC at the start of a byte (R208, R243): 1, which makes the accumulated parity odd. -/
def accStart : Bool := true

/-- LOAD_EN (R108). -/
def State.loadEn (s : State) : Bool := s.out.loadmod

/-- SC_OUT (R107). -/
def State.scOut (s : State) : Bool :=
  match s.out.scMode with
  | .off => false
  | .ook => s.out.scLvl
  | .direct => true

/-- ANT, the antenna load the reader sees (R108). -/
def State.ant (s : State) : Bool := s.loadEn && s.scOut

/-- A half-bit carries the subcarrier (R108). -/
def State.carriesSubcarrier (s : State) : Bool := s.loadEn && s.out.scMode != .off

/-- The result of classifying a full window (R162 to R164). -/
inductive WindowClass where
  | one | zero | eof | garbage
  deriving DecidableEq, Repr

/-- w_i of a window of `spb` samples, in time order: w_0 = SSR[spb-1] (R161). -/
def windowSample (ssr : BitVec 8) (spb i : Nat) : Bool := ssr.getLsbD (spb - 1 - i)

/-- Samples `start`, …, `start + n - 1` of the window all equal `v`. -/
def samplesAll (ssr : BitVec 8) (spb start n : Nat) (v : Bool) : Bool :=
  (List.range n).all fun i => windowSample ssr spb (start + i) == v

/-- The Modified-Miller classifier of Type A (R162). -/
def classifyA (ssr : BitVec 8) (lastBit : Bool) : WindowClass :=
  match windowSample ssr Config.spbA 0, windowSample ssr Config.spbA 1 with
  | false, true => .one
  | true, false => .zero
  | false, false => if lastBit then .zero else .eof
  | true, true => .garbage

/-- The Manchester classifier of Type F (R163). -/
def classifyManchester (p : Params) (ssr : BitVec 8) : WindowClass :=
  let h := p.spbF / 2
  if samplesAll ssr p.spbF 0 h true && samplesAll ssr p.spbF (p.spbF - h) h false then
    if p.fOneFirstHalfPause then .one else .zero
  else if samplesAll ssr p.spbF 0 h false && samplesAll ssr p.spbF (p.spbF - h) h true then
    if p.fOneFirstHalfPause then .zero else .one
  else if samplesAll ssr p.spbF 0 p.spbF false then .eof
  else .garbage

/-- The NRZ classifier of Type F (R164). -/
def classifyNrz (p : Params) (ssr : BitVec 8) : WindowClass :=
  if samplesAll ssr p.spbF 0 p.spbF true then (if p.fOneFirstHalfPause then .one else .zero)
  else if samplesAll ssr p.spbF 0 p.spbF false then (if p.fOneFirstHalfPause then .zero else .one)
  else .garbage

/-- classify (R160): the classifier of the selected protocol and line code. -/
def State.classify (s : State) : WindowClass :=
  match s.proto, s.params.fCode with
  | .typeA, _ => classifyA s.dm.ssr s.dm.lastBit
  | .typeF, .manchester => classifyManchester s.params s.dm.ssr
  | .typeF, .nrz => classifyNrz s.params s.dm.ssr

end Sys2Proof.Machine
end

