-- ==== Sys2Proof/Machine/Ops.lean ====
section
/-! DEFINITION. The shared operations: the two memories (spec/20_memory.md R60 to R65), the record of a model
fault (spec/60_exceptions.md R285), the Timing Substrate operations (spec/40_timing_substrate.md R103 to
R123) and the two resets (spec/43_host_interface.md R242, R244). The block has no trap, no vector and no exception
return (spec/60, head; R286, R287): what it has in their place is `raiseFault` here and the handlers of
Machine/Demodulator.lean and Machine/LoadModulator.lean, whose entry and return save and restore nothing. -/

namespace Sys2Proof.Machine

/-- What a meaning or a step answers. -/
abbrev Res := Host.Outcome State Fault Refusal

/-- `f` after `o`, if `o` answered a next state. -/
def andThen (o : Res) (f : State → Res) : Res :=
  match o with
  | .next s => f s
  | .fault r => .fault r
  | .refused r => .refused r

/-! ### The two memories -/

/-- The canonical form: indices strictly rising. No entry can equal what an index without one holds, since
that is "not written since power-on" (log entry 1). -/
abbrev Memory.wf {α : Type} (m : Memory α) : Prop := (m.map Prod.fst).Pairwise (· < ·)

/-- Every listed index exists (R60: 0..CAP-1). -/
abbrev Memory.below {α : Type} (m : Memory α) (cap : Nat) : Prop := ∀ c ∈ m, c.1 < cap

/-- What was last written to index `i`, if anything was. -/
def Memory.lookup {α : Type} : Memory α → Nat → Option α
  | [], _ => none
  | (k, v) :: m, i => if i = k then some v else Memory.lookup m i

/-- `m` with `v` written to index `i`. -/
def Memory.write {α : Type} : Memory α → Nat → α → Memory α
  | [], i, v => [(i, v)]
  | (k, w) :: m, i, v =>
    if i < k then (i, v) :: (k, w) :: m
    else if i = k then (i, v) :: m
    else (k, w) :: Memory.write m i v

/-- MemRead(BUF, i, 1) (R12). An entry never written holds its power-on value, a free value (spec/93 U3). -/
def State.readBuf (s : State) (i : Nat) : Byte := (s.buf.lookup i).getD (Config.bufPowerOn i)

/-- MemRead(PAR, i, 1) (R12). An entry never written holds its power-on value, a free value (spec/93 U3). -/
def State.readPar (s : State) (i : Nat) : Bool := (s.par.lookup i).getD (Config.parPowerOn i)

/-- MemWrite(BUF, i, 1, v) (R12). -/
def State.writeBuf (s : State) (i : Nat) (v : Byte) : State := { s with buf := s.buf.write i v }

/-- MemWrite(PAR, i, 1, v) (R12). -/
def State.writePar (s : State) (i : Nat) (v : Bool) : State := { s with par := s.par.write i v }

/-- The block owns BUF and PAR (R64). -/
def State.blockOwns (s : State) : Bool :=
  s.dm.state == .samplingDataBit || s.dm.state == .samplingParityBit || s.lm.state != .idle

/-! ### Model faults -/

/-- raise Fault(reason) (R12, R240, R285): one record is appended to FAULTS, the result is 0, and nothing
else changes. The record of a host word refused in a cycle has that cycle's number (log entry 24). DESIGN CHOICE (log
entry 28): a word refused outside any cycle, from the harness, a trace or at the event level, has the number of the
next cycle, and its result is 0 too. -/
def raiseFault (r : FaultReason) (w : Word) (s : State) : State :=
  { s with faults := s.faults ++ [{ reason := r, cycle := s.cycle, word := w }], result := 0 }

/-- R242, R311: no per-cycle signal outlives its cycle (R101). -/
def clearSignals (s : State) : State := { s with sig := .clear }

/-! ### Timing Substrate operations -/

/-- TS_ARM_SAMPLING (R110). -/
def armSampling (period : Half) (s : State) : State :=
  { s with st := { s.st with
      en := true, cnt := 0, per := period, cc := noMatch, bufV := false, restartEn := true } }

/-- TS_ARM_SAMPLING executed in phase 1: ST_FRESH is set too (R110). -/
def armSamplingFresh (period : Half) (s : State) : State :=
  let t := armSampling period s
  { t with sig := { t.sig with stFresh := true } }

/-- TS_SCHEDULE_NEXT_SAMPLE (R111). -/
def scheduleNextSample (period offset : Half) (s : State) : State :=
  { s with st := { s.st with perBuf := period, ccBuf := offset, bufV := true } }

/-- TS_DISARM_SAMPLING (R112). -/
def disarmSampling (s : State) : State :=
  { s with st := { s.st with en := false, restartEn := false, sampleIe := false, bufV := false, cnt := 0 } }

/-- TS_ARM_MODULATION (R113). -/
def armModulation (mode : TimerMode) (period : Half) (s : State) : State :=
  match mode with
  | .measure => { s with mt := { s.mt with
      en := true, cnt := 0, mode := .measure, per := 0xFFFF, cmp := 0, cap := 0, capEn := true } }
  | .periodic => { s with mt := { s.mt with
      en := true, cnt := 0, mode := .periodic, per := period, capEn := false } }

/-- TS_DISARM_MODULATION (R114). -/
def disarmModulation (s : State) : State :=
  { s with mt := { s.mt with en := false, modIe := false, capEn := false, cnt := 0, mode := .measure } }

/-- TS_SET_MOD_PERIOD (R115). -/
def setModPeriod (period : Half) (s : State) : State :=
  match s.mt.mode with
  | .measure => { s with mt := { s.mt with per := period, mode := .periodic, cnt := 0, capEn := false } }
  | .periodic => { s with mt := { s.mt with per := period } }

/-- TS_LOCK_FDT (R116); the sum is modulo 2^16. -/
def lockFdt (last : Bool) (s : State) : State :=
  { s with mt := { s.mt with cmp := s.mt.cap + s.fdtClks last, capEn := false } }

/-- TS_SET_SUBCARRIER (R118). -/
def setSubcarrier (mode : ScMode) (divider : Half) (s : State) : State :=
  { s with out := { s.out with scMode := mode, scDiv := divider, scCnt := 0, scLvl := false } }

/-- TS_SET_LOADMOD (R119). -/
def setLoadmod (active : Bool) (s : State) : State :=
  { s with out := { s.out with loadmod := active } }

/-- TS_READ_INPUT (R120): the synchronised sense level. -/
def State.readInput (s : State) : Bool := s.sync2

/-- TS_SET_EDGE_IRQ (R121). -/
def setEdgeIrq (enable : Bool) (s : State) : State := { s with edgeIe := enable }

/-- TS_SET_SAMPLE_IRQ (R122). -/
def setSampleIrq (enable : Bool) (s : State) : State := { s with st := { s.st with sampleIe := enable } }

/-- TS_SET_MOD_IRQ (R123). -/
def setModIrq (enable : Bool) (s : State) : State := { s with mt := { s.mt with modIe := enable } }

/-! ### The timers inside a cycle -/

/-- load_sampling_buffer (R105). -/
def loadSamplingBuffer (s : State) : State :=
  if s.st.bufV then
    { s with st := { s.st with per := s.st.perBuf, cc := s.st.ccBuf, bufV := false } }
  else s

/-- count_sampling (R104). The comparison ST_CNT ≥ ST_PER - 1 is of whole numbers (log entry 11). -/
def countSampling (s : State) : State :=
  if s.st.per.toNat ≤ s.st.cnt.toNat + 1 then
    loadSamplingBuffer { s with st := { s.st with cnt := 0 }, sig := { s.sig with stWrap := true } }
  else { s with st := { s.st with cnt := s.st.cnt + 1 } }

/-- count_modulation (R106). -/
def countModulation (s : State) : State :=
  match s.mt.mode with
  | .measure => { s with mt := { s.mt with cnt := s.mt.cnt + 1 } }
  | .periodic =>
    if s.mt.per.toNat ≤ s.mt.cnt.toNat + 1 then
      { s with mt := { s.mt with cnt := 0 }, sig := { s.sig with mtWrap := true } }
    else { s with mt := { s.mt with cnt := s.mt.cnt + 1 } }

/-- mod_match (R106). -/
def State.modMatch (s : State) : Bool :=
  match s.mt.mode with
  | .measure => s.mt.cnt == s.mt.cmp
  | .periodic => s.sig.mtWrap

/-- The compare of phase 4 (R101); NO_MATCH never matches (R110, spec/92 D5; log entry 10). -/
def State.sampleMatch (s : State) : Bool := s.st.cc != noMatch && s.st.cnt == s.st.cc

/-- The restart on edge (R103). -/
def restartOnEdge (s : State) : State :=
  if s.st.en && s.st.restartEn then loadSamplingBuffer { s with st := { s.st with cnt := 0 } } else s

/-- The capture of the MEASURE count at an edge (R103). -/
def captureOnEdge (s : State) : State :=
  if s.mt.en && s.mt.mode == .measure && s.mt.capEn then
    { s with mt := { s.mt with cap := s.mt.cnt } }
  else s

/-- subcarrier_step (R107). -/
def subcarrierStep (s : State) : State :=
  match s.out.scMode with
  | .ook =>
    if s.out.scDiv.toNat ≤ s.out.scCnt.toNat + 1 then
      { s with out := { s.out with scCnt := 0, scLvl := !s.out.scLvl } }
    else { s with out := { s.out with scCnt := s.out.scCnt + 1 } }
  | .off | .direct => { s with out := { s.out with scCnt := 0, scLvl := false } }

/-! ### The two resets -/

/-- restart() (R244), in phase 1. -/
def restart (s : State) : State :=
  let a := setLoadmod false (setSubcarrier .off 1 (disarmModulation s))
  let b := { a with
    mt := { a.mt with per := 0xFFFF, cmp := 0, cap := 0 }
    lm := { state := .idle, txBits := 0, txPos := 0, txCur := false, txAcc := accStart, txOwnPar := false }
    dm := { state := .awaitingFieldEdge, ssr := 0, ssrLen := 0, idleCnt := 0, bitCount := 0, parCount := 0,
            lastBit := false, prevBit := false, lastKind := .none, errCause := .none }
    demodDone := false
    modDone := false
    st := { a.st with perBuf := 0, ccBuf := 0 } }
  setEdgeIrq true (setSampleIrq false (armSamplingFresh b.tFirst b))

/-- The body of LC_DEINIT (R242): the POR column of R23 to R30, but for SYNC1 and SYNC2. The sense pin is the
field's, and FAULTS and the cycle number are no registers of the block (R33). -/
def deinit (s : State) : State :=
  { s with
    enabled := false
    proto := .typeA
    st := .por
    mt := .por
    edgeIe := false
    out := .por
    dm := .por
    lm := .por
    demodDone := false
    modDone := false }

end Sys2Proof.Machine
end

