-- ==== Sys2Proof/Machine/Demodulator.lean ====
section
/-! DEFINITION. The Demodulator's handlers (spec/41_demodulator.md): first_edge, sample_tick, the framer, the
retraction and the end of a frame, and on_edge of spec/40_timing_substrate.md R103, which calls the first. -/

namespace Sys2Proof.Machine

/-- first_edge (R150). -/
def firstEdge (s : State) : State :=
  let a := setEdgeIrq false s
  match a.dm.state with
  | .awaitingFieldEdge =>
    let b := armModulation .measure 0 (setSampleIrq true (scheduleNextSample a.tSlot a.params.ccSlot a))
    { b with dm :=
      { state := .samplingDataBit, ssr := 0, ssrLen := 0, idleCnt := 0, bitCount := 0, parCount := 0,
        lastBit := false, prevBit := false, lastKind := .none, errCause := .none } }
  | .samplingDataBit | .samplingParityBit | .frameComplete => a

/-- on_edge (R103). -/
def onEdge (s : State) : State :=
  let a := captureOnEdge (restartOnEdge s)
  if a.edgeIe then firstEdge a else a

/-- LASTBIT, PREVBIT and LAST_KIND after one more bit of the stream (R170, R171). -/
def Demod.noteBit (d : Demod) (b : Bool) (k : LastKind) : Demod :=
  { d with prevBit := d.lastBit, lastBit := b, lastKind := k }

/-- The BUF entry frame bit `n` goes to, with that bit stored: the first bit of a Type A byte clears the
rest of it, and a Type F symbol is the whole entry (R170). -/
def State.entryWithBit (s : State) (n : Half) (b : Bool) : Byte :=
  match s.proto with
  | .typeA => withBit (if s.bitOffset n = 0 then 0 else s.readBuf (s.bitIndex n)) (s.bitOffset n) b
  | .typeF => byteOfBit b

/-- emit in SAMPLING_DATA_BIT (R170). An index out of range, in no state a run reaches, is log entry 14. -/
def emitData (b : Bool) (s : State) : Res :=
  if s.dm.bitCount.toNat = s.bitcap then .next { s with dm := s.dm.noteBit b .pending }
  else if s.params.cap ≤ s.bitIndex s.dm.bitCount then .fault .bufIndex
  else
    let t := s.writeBuf (s.bitIndex s.dm.bitCount) (s.entryWithBit s.dm.bitCount b)
    let n := s.dm.bitCount + 1
    let state := if s.proto = .typeA ∧ n.toNat % 8 = 0 then DemodState.samplingParityBit else s.dm.state
    .next { t with dm := { t.dm.noteBit b .data with bitCount := n, state := state } }

/-- emit in SAMPLING_PARITY_BIT (R171). -/
def emitParity (b : Bool) (s : State) : Res :=
  let k := (parIndexOf s.dm.bitCount).toNat
  if s.params.cap ≤ k then .fault .parIndex
  else
    let t := s.writePar k b
    .next { t with dm :=
      { t.dm.noteBit b .parity with parCount := s.dm.parCount + 1, state := .samplingDataBit } }

/-- emit (R170, R171). It is called in the two sampling states only. -/
def emit (b : Bool) (s : State) : Res :=
  match s.dm.state with
  | .samplingDataBit => emitData b s
  | .samplingParityBit => emitParity b s
  | .awaitingFieldEdge | .frameComplete => .next s

/-- The end of every retraction (R172). -/
def forgetBit (s : State) : State :=
  { s with dm := { s.dm with lastBit := s.dm.prevBit, lastKind := .none } }

/-- retract, case DATA (R172). -/
def retractData (s : State) : Res :=
  let n := s.dm.bitCount - 1
  let k := s.bitIndex n
  if s.params.cap ≤ k then .fault .bufIndex
  else
    let v : Byte := match s.proto with
      | .typeA => withBit (s.readBuf k) (s.bitOffset n) false
      | .typeF => 0
    let t := s.writeBuf k v
    .next { t with dm := { t.dm with bitCount := n } }

/-- retract, case PARITY (R172). -/
def retractParity (s : State) : Res :=
  let n := s.dm.parCount - 1
  if s.params.cap ≤ n.toNat then .fault .parIndex
  else
    let t := s.writePar n.toNat false
    .next { t with dm := { t.dm with parCount := n } }

/-- retract (R172). -/
def retract (s : State) : Res :=
  match s.dm.lastKind with
  | .none | .pending => .next (forgetBit s)
  | .data => andThen (retractData s) fun t => .next (forgetBit t)
  | .parity => andThen (retractParity s) fun t => .next (forgetBit t)

/-- end_of_frame (R174). -/
def endOfFrame (cause : ErrCause) (s : State) : State :=
  let a := lockFdt s.dm.lastBit (disarmSampling s)
  { a with
    dm := { a.dm with errCause := cause, ssr := 0, ssrLen := 0, idleCnt := 0, state := .frameComplete }
    demodDone := true }

/-- A new sample enters the window (R160, R161): p = 1 for a pause, and the inactivity count. -/
def shiftSample (level : Bool) (s : State) : State :=
  { s with dm := { s.dm with
      ssr := s.dm.ssr <<< 1 ||| byteOfBit (!level)
      ssrLen := s.dm.ssrLen + 1
      idleCnt := if level then (if s.dm.idleCnt = 255 then 255 else s.dm.idleCnt + 1) else 0 } }

/-- The window is consumed (R161). -/
def clearWindow (s : State) : State := { s with dm := { s.dm with ssr := 0, ssrLen := 0 } }

/-- The inactivity test that ends a sample tick (R160, R167). A frame that has ended is not tested. -/
def inactivityTest (s : State) : State :=
  match s.dm.state with
  | .frameComplete => s
  | .awaitingFieldEdge | .samplingDataBit | .samplingParityBit =>
    if s.nIdle.toNat ≤ s.dm.idleCnt.toNat then
      endOfFrame (if s.dm.lastKind = .pending then .overflow else .none) s
    else s

/-- The end of a frame by the EOF result: Type A retracts its logic 0 first, Type F retracts nothing (R160,
R163, R166). -/
def endByEof (s : State) : Res :=
  match s.proto with
  | .typeA => andThen (retract s) fun t => .next (endOfFrame .none t)
  | .typeF => .next (endOfFrame .none s)

/-- What a full window does once it is classified as `r` and consumed (R160, R165, R166, R173). -/
def windowResult (r : WindowClass) (s : State) : Res :=
  if s.dm.lastKind = .pending ∧ (r ≠ .eof ∨ s.proto = .typeF) then .next (endOfFrame .overflow s)
  else match r with
    | .one => andThen (emit true s) fun t => .next (inactivityTest t)
    | .zero => andThen (emit false s) fun t => .next (inactivityTest t)
    | .eof => endByEof s
    | .garbage => .next (endOfFrame .garbage s)

/-- sample_tick (R160). -/
def sampleTick (level : Bool) (s : State) : Res :=
  match s.dm.state with
  | .awaitingFieldEdge | .frameComplete => .next s
  | .samplingDataBit | .samplingParityBit =>
    let a := shiftSample level s
    if a.dm.ssrLen.toNat = a.spb then windowResult a.classify (clearWindow a)
    else .next (inactivityTest a)

end Sys2Proof.Machine
end

