-- ==== Sys2Proof/Machine/HostPort.lean ====
section
/-! DEFINITION. The host command port (spec/43_host_interface.md R240 to R250): the acceptance of a word, and the
meaning of each HOST operation in phase 1 of a cycle. An operation that R240 refuses changes nothing and
records one model fault. -/

namespace Sys2Proof.Machine

/-- An accepted operation that returns no value returns 0 (R240). -/
def accepted (s : State) : State := { s with result := 0 }

/-- LC_INIT (R241). -/
def hostLcInit (proto : Protocol) (s : State) : State :=
  if s.enabled then raiseFault .alreadyEnabled (encode (.lcInit proto)) s
  else accepted (restart { s with proto := proto, enabled := true })

/-- LC_DEINIT (R242). -/
def hostLcDeinit (s : State) : State :=
  if s.enabled then accepted (deinit s) else raiseFault .notEnabled (encode .lcDeinit) s

/-- CTL_RESTART_DEMOD (R244). -/
def hostCtlRestartDemod (s : State) : State :=
  if s.enabled then accepted (restart s) else raiseFault .notEnabled (encode .ctlRestartDemod) s

/-- The block is ready for a reply (R243). -/
def State.armReady (s : State) : Bool :=
  s.dm.state == .frameComplete && s.lm.state == .idle && s.mt.en

/-- Which check of CTL_ARM_REPLY fails first, if one does (R243). -/
def State.armRefusal (s : State) (bits : Half) : Option FaultReason :=
  if !s.enabled then some .notEnabled
  else if bits.toNat < 1 ∨ s.bitcap < bits.toNat then some .badReplyCount
  else if !s.armReady then some .armNotReady
  else none

/-- The body of CTL_ARM_REPLY (R243). -/
def armReply (ownParity : Bool) (bits : Half) (s : State) : State :=
  let a := { s with
    demodDone := false
    lm := { s.lm with txBits := bits, txPos := 0, txAcc := accStart, txCur := false, txOwnPar := ownParity } }
  let b := setLoadmod false (setSubcarrier a.replyScMode a.params.scDiv a)
  setModIrq true { b with lm := { b.lm with state := .frameDelayWait } }

/-- CTL_ARM_REPLY (R243). -/
def hostCtlArmReply (ownParity : Bool) (bits : Half) (s : State) : State :=
  match s.armRefusal bits with
  | some r => raiseFault r (encode (.ctlArmReply ownParity bits)) s
  | none => accepted (armReply ownParity bits s)

/-- CTL_CLEAR_FLAGS (R245). -/
def hostCtlClearFlags (demod mod : Bool) (s : State) : State := accepted (s.clearFlags demod mod)

/-- CTL_READ_STATUS (R246). -/
def hostCtlReadStatus (s : State) : State := { s with result := s.status }

/-- Which check of a buffer access fails first, if one does (R247, R63, R64). -/
def State.bufRefusal (s : State) (index : Half) : Option FaultReason :=
  if s.params.cap ≤ index.toNat then some .addressRange
  else if s.blockOwns then some .ownership
  else none

/-- BUF_READ (R247). -/
def hostBufRead (index : Half) (s : State) : State :=
  match s.bufRefusal index with
  | some r => raiseFault r (encode (.bufRead index)) s
  | none => { s with result := (s.readBuf index.toNat).zeroExtend 64 }

/-- BUF_WRITE (R248). -/
def hostBufWrite (index : Half) (data : Byte) (s : State) : State :=
  match s.bufRefusal index with
  | some r => raiseFault r (encode (.bufWrite index data)) s
  | none => accepted (s.writeBuf index.toNat data)

/-- PAR_READ (R249). -/
def hostParRead (index : Half) (s : State) : State :=
  match s.bufRefusal index with
  | some r => raiseFault r (encode (.parRead index)) s
  | none => { s with result := wordOfBit (s.readPar index.toNat) }

/-- PAR_WRITE (R250). -/
def hostParWrite (index : Half) (bit : Bool) (s : State) : State :=
  match s.bufRefusal index with
  | some r => raiseFault r (encode (.parWrite index bit)) s
  | none => accepted (s.writePar index.toNat bit)

/-- The operation of a HOST word. On the host port a word of another class is refused with NOT_HOST_OP
(R240), `w` being that word. -/
def hostOperation (w : Word) (i : Instr) (s : State) : State :=
  match i with
  | .lcInit p => hostLcInit p s
  | .lcDeinit => hostLcDeinit s
  | .ctlRestartDemod => hostCtlRestartDemod s
  | .ctlArmReply o n => hostCtlArmReply o n s
  | .ctlClearFlags d m => hostCtlClearFlags d m s
  | .ctlReadStatus => hostCtlReadStatus s
  | .bufRead k => hostBufRead k s
  | .bufWrite k d => hostBufWrite k d s
  | .parRead k => hostParRead k s
  | .parWrite k v => hostParWrite k v s
  | .tsArmSampling _ | .tsScheduleNextSample _ _ | .tsDisarmSampling | .tsArmModulation _ _
  | .tsDisarmModulation | .tsSetModPeriod _ | .tsLockFdt _ | .tsSetSubcarrier _ _ | .tsSetLoadmod _
  | .tsReadInput | .tsSetEdgeIrq _ | .tsSetSampleIrq _ | .tsSetModIrq _
  | .evClk _ | .evEdge | .evSampleTick _ | .evModTick => raiseFault .notHostOp w s

/-- A word on the host port (R240): the checks in their order, then the operation. -/
def hostWord (w : Word) (s : State) : State :=
  match wordClass w with
  | none => raiseFault .illegalOpcode w s
  | some .internal | some .event => raiseFault .notHostOp w s
  | some .host =>
    match decode w with
    | .error .illegalOpcode => raiseFault .illegalOpcode w s
    | .error .reservedNonzero => raiseFault .reservedNonzero w s
    | .ok i => hostOperation w i s

/-- The meaning of LC_INIT (R241). -/
def execLcInit (proto : Protocol) (s : State) : Res := .next (hostLcInit proto s)

/-- The meaning of LC_DEINIT (R242). -/
def execLcDeinit (s : State) : Res := .next (hostLcDeinit s)

/-- The meaning of CTL_RESTART_DEMOD (R244). -/
def execCtlRestartDemod (s : State) : Res := .next (hostCtlRestartDemod s)

/-- The meaning of CTL_ARM_REPLY (R243). -/
def execCtlArmReply (ownParity : Bool) (bits : Half) (s : State) : Res :=
  .next (hostCtlArmReply ownParity bits s)

/-- The meaning of CTL_CLEAR_FLAGS (R245). -/
def execCtlClearFlags (demod mod : Bool) (s : State) : Res := .next (hostCtlClearFlags demod mod s)

/-- The meaning of CTL_READ_STATUS (R246). -/
def execCtlReadStatus (s : State) : Res := .next (hostCtlReadStatus s)

/-- The meaning of BUF_READ (R247). -/
def execBufRead (index : Half) (s : State) : Res := .next (hostBufRead index s)

/-- The meaning of BUF_WRITE (R248). -/
def execBufWrite (index : Half) (data : Byte) (s : State) : Res := .next (hostBufWrite index data s)

/-- The meaning of PAR_READ (R249). -/
def execParRead (index : Half) (s : State) : Res := .next (hostParRead index s)

/-- The meaning of PAR_WRITE (R250). -/
def execParWrite (index : Half) (bit : Bool) (s : State) : Res := .next (hostParWrite index bit s)

end Sys2Proof.Machine
end

