-- ==== Sys2Proof/Machine/LoadModulator.lean ====
section
/-! DEFINITION. The Load-Modulator's tick handler (spec/42_load_modulator.md R200 to R212), one definition for
each state of LM_STATE. -/

namespace Sys2Proof.Machine

/-- LM_STATE ← `l`. -/
def setLmState (l : LmState) (s : State) : State := { s with lm := { s.lm with state := l } }

/-- FRAME_DELAY_WAIT tick (R201). -/
def tickFrameDelayWait (s : State) : State := setLmState .bitGridAlign (setModPeriod s.params.pAlign s)

/-- BIT_GRID_ALIGN tick (R202). -/
def tickBitGridAlign (s : State) : State := setLmState .startBit0 (setModPeriod s.params.pHalfTx s)

/-- START_BIT_0 tick (R203). -/
def tickStartBit0 (s : State) : State := setLmState .startBit1 (setLoadmod true s)

/-- START_BIT_1 tick (R204). -/
def tickStartBit1 (s : State) : State := setLmState .dataBit0 (setLoadmod false s)

/-- Data bit `n` of the reply, as BUF holds it (R205, R62). -/
def State.txBit (s : State) (n : Half) : Bool := (s.readBuf (s.bitIndex n)).getLsbD (s.bitOffset n)

/-- The level of the first half-bit of data bit `b` (R205). -/
def State.firstHalfLevel (s : State) (b : Bool) : Bool :=
  match s.proto with
  | .typeA => b
  | .typeF => b ^^ s.params.txfInvert

/-- DATA_BIT_0 tick (R205). -/
def tickDataBit0 (s : State) : Res :=
  if s.params.cap ≤ s.bitIndex s.lm.txPos then .fault .bufIndex
  else
    let b := s.txBit s.lm.txPos
    let t := setLoadmod (s.firstHalfLevel b) s
    .next { t with lm :=
      { t.lm with txCur := b, txAcc := accumulate t.lm.txAcc b, state := .dataBit1 } }

/-- DATA_BIT_1 tick (R206): the full-byte test comes first. -/
def tickDataBit1 (s : State) : State :=
  let n := s.lm.txPos + 1
  let next := if s.proto = .typeA ∧ n.toNat % 8 = 0 then LmState.parityBit0
    else if n = s.lm.txBits then .stopBit0 else .dataBit0
  let t := setLoadmod (!s.out.loadmod) s
  { t with lm := { t.lm with txPos := n, state := next } }

/-- The PARITY_BIT_0 tick once the parity bit `pb` is known (R207). -/
def sendParity (pb : Bool) (s : State) : State :=
  let t := setLoadmod pb s
  { t with lm := { t.lm with txCur := pb, state := .parityBit1 } }

/-- PARITY_BIT_0 tick (R207): PAR is read only for own parity (R216). -/
def tickParityBit0 (s : State) : Res :=
  if s.lm.txOwnPar then
    let k := (parIndexOf s.lm.txPos).toNat
    if s.params.cap ≤ k then .fault .parIndex else .next (sendParity (s.readPar k) s)
  else .next (sendParity s.lm.txAcc s)

/-- PARITY_BIT_1 tick (R208). -/
def tickParityBit1 (s : State) : State :=
  let t := setLoadmod (!s.out.loadmod) s
  { t with lm := { t.lm with
      txAcc := accStart
      state := if t.lm.txPos = t.lm.txBits then .stopBit0 else .dataBit0 } }

/-- STOP_BIT_0 tick (R209). -/
def tickStopBit0 (s : State) : State := setLmState .stopBit1 (setLoadmod false s)

/-- STOP_BIT_1 tick (R210). -/
def tickStopBit1 (s : State) : State := setLmState .finished (setLoadmod false s)

/-- FINISHED tick (R211). DESIGN CHOICE (log entry 29): the divider `SC_DIV` it writes is the parameter of R8, as in
the arm of R243, and not the register's own value. -/
def tickFinished (s : State) : State :=
  let t := disarmModulation (setLoadmod false (setSubcarrier .off s.params.scDiv s))
  setLmState .idle { t with modDone := true }

/-- mod_tick (R200): one state's tick, or nothing in IDLE and in the codes 12..15 (R212). -/
def modTick (s : State) : Res :=
  match s.lm.state with
  | .idle => .next s
  | .frameDelayWait => .next (tickFrameDelayWait s)
  | .bitGridAlign => .next (tickBitGridAlign s)
  | .startBit0 => .next (tickStartBit0 s)
  | .startBit1 => .next (tickStartBit1 s)
  | .dataBit0 => tickDataBit0 s
  | .dataBit1 => .next (tickDataBit1 s)
  | .parityBit0 => tickParityBit0 s
  | .parityBit1 => .next (tickParityBit1 s)
  | .stopBit0 => .next (tickStopBit0 s)
  | .stopBit1 => .next (tickStopBit1 s)
  | .finished => .next (tickFinished s)
  | .outOfRange _ => .next s

end Sys2Proof.Machine
end

