-- ==== Sys2Proof/Machine/Events.lean ====
section
/-! DEFINITION. The clock cycle with its six phases (spec/40_timing_substrate.md R100 to R102) and the meanings of the
EVENT words: EV_CLK is one cycle, the others run one handler without the timers (R109). -/

namespace Sys2Proof.Machine

/-- Phase 1 (R101): the host operation of the cycle, if there is one. -/
def phaseHost (s : State) : State :=
  match s.hop with
  | none => s
  | some w => hostWord w { s with hop := none }

/-- The Sampling Timer's half of phase 2 (R101). -/
def phaseCountSampling (s : State) : State :=
  if s.enabled && s.st.en && !s.sig.stFresh then countSampling s else s

/-- The Modulation Timer's half of phase 2 (R101). -/
def phaseCountModulation (s : State) : State :=
  if s.enabled && s.mt.en then countModulation s else s

/-- The synchroniser (R102): SYNC2 ← SYNC1, SYNC1 ← pin. -/
def shiftSync (pin : Bool) (s : State) : State := { s with sense := pin, sync2 := s.sync1, sync1 := pin }

/-- Phase 3 (R101, R102): SYNC2 falling from 1 to 0 is an edge. -/
def phaseEdge (pin : Bool) (s : State) : State :=
  let t := shiftSync pin s
  if t.enabled && (s.sync2 && !t.sync2) then onEdge t else t

/-- Phase 4 (R101). -/
def phaseSample (s : State) : Res :=
  if s.enabled && s.st.en && s.st.sampleIe && s.sampleMatch then sampleTick s.readInput s else .next s

/-- Phase 5 (R101). -/
def phaseMod (s : State) : Res :=
  if s.enabled && s.mt.en && s.mt.modIe && s.modMatch then modTick s else .next s

/-- The end of the cycle: its signals are gone, and the cycle number moves on (R33, R101). -/
def endCycle (s : State) : State := { clearSignals s with cycle := s.cycle + 1 }

/-- Phases 2 and 3 of a cycle whose sense pin is `pin` (R101). -/
def earlyPhases (pin : Bool) (s : State) : State :=
  phaseEdge pin (phaseCountModulation (phaseCountSampling s))

/-- Phases 2 to 6 of a cycle whose sense pin is `pin` (R101). -/
def blockPhases (pin : Bool) (s : State) : Res :=
  andThen (phaseSample (earlyPhases pin s)) fun a =>
  andThen (phaseMod a) fun b =>
  .next (endCycle (subcarrierStep b))

/-- cycle(pin, hop) (R101), `hop` being what stands on the host port. -/
def cycle (pin : Bool) (s : State) : Res := blockPhases pin (phaseHost (clearSignals s))

/-- The meaning of EV_CLK (R100). -/
def execEvClk (pin : Bool) (s : State) : Res := cycle pin s

/-- The meaning of EV_EDGE (R109, R103). While ENABLED = 0 no source fires (R283, R294; log entry 12). -/
def execEvEdge (s : State) : Res := if s.enabled then .next (onEdge s) else .next s

/-- The meaning of EV_SAMPLE_TICK (R109, R160). -/
def execEvSampleTick (level : Bool) (s : State) : Res :=
  if s.enabled && s.st.en && s.st.sampleIe then sampleTick level s else .next s

/-- The meaning of EV_MOD_TICK (R109, R200). -/
def execEvModTick (s : State) : Res :=
  if s.enabled && s.mt.en && s.mt.modIe then modTick s else .next s

end Sys2Proof.Machine
end

