-- ==== Sys2Proof/Machine/Substrate.lean ====
section
/-! DEFINITION. The meanings of the INTERNAL words (spec/40_timing_substrate.md R110 to R123). A handler runs the
operation of Machine/Ops.lean itself. As a WORD the operation comes from a replayed trace, where the operand
checks of spec/30_encoding.md R83 apply (spec/40, section 2) and a bad operand is the model fault BAD_OPERAND (R285). -/

namespace Sys2Proof.Machine

/-- The operation, or BAD_OPERAND for the word of `i` (R83, R285). -/
def replayed (ok : Bool) (i : Instr) (op : State → State) (s : State) : Res :=
  if ok then .next (op s) else .next (raiseFault .badOperand (encode i) s)

/-- TS_ARM_SAMPLING (R110). Outside phase 1: ST_FRESH is not set. -/
def execTsArmSampling (period : Half) (s : State) : Res :=
  replayed (periodOk period) (.tsArmSampling period) (armSampling period) s

/-- TS_SCHEDULE_NEXT_SAMPLE (R111). -/
def execTsScheduleNextSample (period offset : Half) (s : State) : Res :=
  replayed (periodOk period && offsetOk period offset) (.tsScheduleNextSample period offset)
    (scheduleNextSample period offset) s

/-- TS_DISARM_SAMPLING (R112). -/
def execTsDisarmSampling (s : State) : Res := .next (disarmSampling s)

/-- TS_ARM_MODULATION (R113). -/
def execTsArmModulation (mode : TimerMode) (period : Half) (s : State) : Res :=
  replayed (modArmOk mode period) (.tsArmModulation mode period) (armModulation mode period) s

/-- TS_DISARM_MODULATION (R114). -/
def execTsDisarmModulation (s : State) : Res := .next (disarmModulation s)

/-- TS_SET_MOD_PERIOD (R115). -/
def execTsSetModPeriod (period : Half) (s : State) : Res :=
  replayed (periodOk period) (.tsSetModPeriod period) (setModPeriod period) s

/-- TS_LOCK_FDT (R116). -/
def execTsLockFdt (last : Bool) (s : State) : Res := .next (lockFdt last s)

/-- TS_SET_SUBCARRIER (R118); mode 3 and divider 0 are refused (R83). -/
def execTsSetSubcarrier (mode : BitVec 2) (divider : Half) (s : State) : Res :=
  match scModeOfCode mode with
  | some m => replayed (dividerOk divider) (.tsSetSubcarrier mode divider) (setSubcarrier m divider) s
  | none => .next (raiseFault .badOperand (encode (.tsSetSubcarrier mode divider)) s)

/-- TS_SET_LOADMOD (R119). -/
def execTsSetLoadmod (active : Bool) (s : State) : Res := .next (setLoadmod active s)

/-- TS_READ_INPUT (R120): it returns SYNC2 and has no side effect. -/
def execTsReadInput (s : State) : Res := .next { s with result := wordOfBit s.readInput }

/-- TS_SET_EDGE_IRQ (R121). -/
def execTsSetEdgeIrq (enable : Bool) (s : State) : Res := .next (setEdgeIrq enable s)

/-- TS_SET_SAMPLE_IRQ (R122). -/
def execTsSetSampleIrq (enable : Bool) (s : State) : Res := .next (setSampleIrq enable s)

/-- TS_SET_MOD_IRQ (R123). -/
def execTsSetModIrq (enable : Bool) (s : State) : Res := .next (setModIrq enable s)

end Sys2Proof.Machine
end

