-- ==== Sys2Proof/Machine/Dispatch.lean ====
section
/-! DEFINITION. One arm for each operation of spec/opcode_table.json. -/

namespace Sys2Proof.Machine

def exec (i : Instr) (s : State) : Host.Outcome State Fault Refusal :=
  match i with
  | .tsArmSampling period => Sys2Proof.Machine.execTsArmSampling period s
  | .tsScheduleNextSample period offset => Sys2Proof.Machine.execTsScheduleNextSample period offset s
  | .tsDisarmSampling => Sys2Proof.Machine.execTsDisarmSampling s
  | .tsArmModulation mode period => Sys2Proof.Machine.execTsArmModulation mode period s
  | .tsDisarmModulation => Sys2Proof.Machine.execTsDisarmModulation s
  | .tsSetModPeriod period => Sys2Proof.Machine.execTsSetModPeriod period s
  | .tsLockFdt last => Sys2Proof.Machine.execTsLockFdt last s
  | .tsSetSubcarrier mode divider => Sys2Proof.Machine.execTsSetSubcarrier mode divider s
  | .tsSetLoadmod active => Sys2Proof.Machine.execTsSetLoadmod active s
  | .tsReadInput => Sys2Proof.Machine.execTsReadInput s
  | .tsSetEdgeIrq enable => Sys2Proof.Machine.execTsSetEdgeIrq enable s
  | .tsSetSampleIrq enable => Sys2Proof.Machine.execTsSetSampleIrq enable s
  | .tsSetModIrq enable => Sys2Proof.Machine.execTsSetModIrq enable s
  | .evClk pin => Sys2Proof.Machine.execEvClk pin s
  | .evEdge => Sys2Proof.Machine.execEvEdge s
  | .evSampleTick level => Sys2Proof.Machine.execEvSampleTick level s
  | .evModTick => Sys2Proof.Machine.execEvModTick s
  | .lcInit proto => Sys2Proof.Machine.execLcInit proto s
  | .lcDeinit => Sys2Proof.Machine.execLcDeinit s
  | .ctlRestartDemod => Sys2Proof.Machine.execCtlRestartDemod s
  | .ctlArmReply ownParity bits => Sys2Proof.Machine.execCtlArmReply ownParity bits s
  | .ctlClearFlags demod mod => Sys2Proof.Machine.execCtlClearFlags demod mod s
  | .ctlReadStatus => Sys2Proof.Machine.execCtlReadStatus s
  | .bufRead index => Sys2Proof.Machine.execBufRead index s
  | .bufWrite index data => Sys2Proof.Machine.execBufWrite index data s
  | .parRead index => Sys2Proof.Machine.execParRead index s
  | .parWrite index bit => Sys2Proof.Machine.execParWrite index bit s

end Sys2Proof.Machine
end

