-- ==== Sys2Proof/Machine/Task.lean ====
section
/-! DEFINITION. The Codec Controller's TASK and its oracle (spec/43_host_interface.md R251, R252): which host word comes next,
and where the Controller stands after it. TASK has no encoding (R88). -/

namespace Sys2Proof.Machine

/-- The next word of the TASK; none while the oracle is working (R251). -/
def taskWord : TaskPhase → Option Instr
  | .idle => some .ctlReadStatus
  | .restartDue => some .ctlRestartDemod
  | .awaitingAp _ => none
  | .replyDue n own => some (.ctlArmReply own n)

/-- What the Controller does about the STATUS it has read (R251): DEMOD_DONE comes before MOD_DONE. -/
def afterStatus (status : Word) : TaskPhase :=
  if statusDemodDone status then
    if statusErrCause status != 0 || decide ((statusBitCount status).toNat < Config.minFrameBits) then
      .restartDue
    else .awaitingAp (statusBitCount status)
  else if statusModDone status then .restartDue
  else .idle

/-- Where the Controller stands after its word: `refused` says whether the word was, `result` is what it
returned (R251). -/
def taskAfter (phase : TaskPhase) (refused : Bool) (result : Word) : TaskPhase :=
  match phase with
  | .idle => afterStatus result
  | .restartDue => .idle
  | .awaitingAp n => .awaitingAp n
  | .replyDue _ _ => if refused then .restartDue else .idle

/-- Where the Controller stands after the oracle's answer (R251, R252). -/
def afterAnswer : ApResponse → TaskPhase
  | .noResponse => .restartDue
  | .reply n own => .replyDue n own

end Sys2Proof.Machine
end

