-- ==== Sys2Proof/Machine/Ports.lean ====
section
/-! DEFINITION. How the words of the outside world reach the block: the host port and the harness port
(spec/30_encoding.md R84), the replay of a trace (spec/60_exceptions.md R285), the Controller's TASK (spec/43_host_interface.md R251), and a
cycle in which nothing is said. -/

namespace Sys2Proof.Machine

/-- One cycle with the sense pin and the host operation given (R100). -/
def runCycle (pin : Bool) (hop : Option Word) (s : State) : Res := exec (.evClk pin) { s with hop := hop }

/-- A word on the host port. At the cycle level it is the host operation of a cycle; at the event level there
is no cycle, and its phase 1 is all (R109; log entry 17). -/
def hostPort (pin : Bool) (w : Word) (s : State) : Res :=
  match s.view with
  | .cycleLevel => runCycle pin (some w) s
  | .eventLevel => .next (clearSignals (hostWord w s))

/-- EV_CLK is accepted in both views, the other EVENT words at the event level only (R84). -/
def harnessAccepts (view : View) (i : Instr) : Bool :=
  match i with
  | .evClk _ => true
  | .evEdge | .evSampleTick _ | .evModTick => view == .eventLevel
  | .tsArmSampling _ | .tsScheduleNextSample _ _ | .tsDisarmSampling | .tsArmModulation _ _
  | .tsDisarmModulation | .tsSetModPeriod _ | .tsLockFdt _ | .tsSetSubcarrier _ _ | .tsSetLoadmod _
  | .tsReadInput | .tsSetEdgeIrq _ | .tsSetSampleIrq _ | .tsSetModIrq _
  | .lcInit _ | .lcDeinit | .ctlRestartDemod | .ctlArmReply _ _ | .ctlClearFlags _ _ | .ctlReadStatus
  | .bufRead _ | .bufWrite _ _ | .parRead _ | .parWrite _ _ => false

/-- A word on the harness port (R84, R85). DESIGN CHOICE (log entry 18): R240 and D47 order the checks of the
host port only; here the opcode is looked at first, then the class, then the unused bits, then the view. So a word
of another class stops the run, with no record, whatever its unused bits are. -/
def harnessPort (w : Word) (s : State) : Res :=
  match wordClass w with
  | none => .next (raiseFault .illegalOpcode w s)
  | some .internal | some .host => .refused .notHarnessOp
  | some .event =>
    match decode w with
    | .error _ => .next (raiseFault .reservedNonzero w s)
    | .ok i => if harnessAccepts s.view i then exec i s else .refused .eventAtCycleLevel

/-- A word of a replayed trace (R285): an INTERNAL operation by itself (log entry 15). DESIGN CHOICE (log entry 18):
the checks are ordered as on the harness port, so a word of another class stops the run, with no record, whatever
its unused bits are. -/
def replayPort (w : Word) (s : State) : Res :=
  match wordClass w with
  | none => .next (raiseFault .illegalOpcode w s)
  | some .event | some .host => .refused .notReplayOp
  | some .internal =>
    match decode w with
    | .error _ => .next (raiseFault .reservedNonzero w s)
    | .ok i => exec i s

/-- A word was refused between `s` and `t` (R240: a refusal appends one record). -/
def wasRefused (s t : State) : Bool := decide (s.faults.length < t.faults.length)

/-- A turn of the TASK that issues no word: the block still runs a cycle (R252). -/
def idleTurn (pin : Bool) (s : State) : Res :=
  match s.view with
  | .cycleLevel => runCycle pin none s
  | .eventLevel => .next s

/-- One turn of the Controller's TASK (R251), each of its words in a cycle of its own. -/
def taskTurn (pin : Bool) (s : State) : Res :=
  match taskWord s.task with
  | none => idleTurn pin s
  | some i =>
    andThen (hostPort pin (encode i) s) fun t =>
    .next { t with task := taskAfter s.task (wasRefused s t) t.result }

/-- The oracle's answer (R252), which only a waiting TASK takes. -/
def oracleAnswer (r : ApResponse) (s : State) : Res :=
  match s.task with
  | .awaitingAp _ => .next { s with task := afterAnswer r }
  | .idle | .restartDue | .replyDue _ _ => .refused .unaskedAnswer

/-- One input of the outside world (R7). -/
def takeInput (x : Stimulus) (s : State) : Res :=
  match x with
  | .cycle pin hop => runCycle pin hop s
  | .harness w => harnessPort w s
  | .host w => hostPort s.sense w s
  | .replay w => replayPort w s
  | .task pin => taskTurn pin s
  | .answer r => oracleAnswer r s

/-- Nothing is said. At the cycle level CLK runs on with no host operation and any pin level (spec/93 U12, U14;
log entry 2); at the event level no event happens. -/
def quietStep (s : State) : Res :=
  match s.view with
  | .cycleLevel => runCycle (Config.freePin s.cycle) none s
  | .eventLevel => .next s

/-- The input that hands the word `w` to the port its class comes by; an illegal word goes to the host
port, which refuses it. -/
def inputOfWord (w : Word) : Stimulus :=
  match wordClass w with
  | some .event => .harness w
  | some .internal => .replay w
  | some .host | none => .host w

/-- The view in which that port accepts `w` (R84): the event level for an EVENT word other than EV_CLK. -/
def viewOfWord (w : Word) (view : View) : View :=
  match wordClass w, decode w with
  | some .event, .ok i => if harnessAccepts view i then view else .eventLevel
  | _, _ => view

end Sys2Proof.Machine
end

