-- ==== Sys2Proof/Machine/Step.lean ====
section
/-! DEFINITION. One step of the machine: the next input is taken, or nothing is said (spec/00_scope.md R7). The block has
no program counter and fetches nothing (spec/10_state.md R21, spec/20_memory.md R69): an operation comes to run because a word of it
stands next in `State.inputs`. -/

namespace Sys2Proof.Machine

def step (s : State) : Host.Outcome State Fault Refusal :=
  match s.inputs with
  | [] => quietStep s
  | x :: rest => takeInput x { s with inputs := rest }

/-- `k` steps, stopping where the machine stops. -/
def steps : Nat → State → Res
  | 0, s => .next s
  | k + 1, s => andThen (step s) (steps k)

/-- `s` with the operation word `w` standing next on the port of its class, in a view that accepts it
(log entry 6). -/
def State.withFetchWord (s : State) (_nbits w : Nat) : State :=
  { s with
    view := viewOfWord (BitVec.ofNat 64 w) s.view
    inputs := inputOfWord (BitVec.ofNat 64 w) :: s.inputs }

end Sys2Proof.Machine
end

