-- ==== Sys2Proof/Safety.lean ====
section
/-! DEFINITION. What holds of the block in every cycle reached from power-on: the invariants (I1) to (I8) of
spec/10_state.md R35 under their own names, and the facts that make them inductive. Every predicate is an abbrev of a
decidable proposition. The words of a replayed trace (`Stimulus.replay`) run Timing Substrate operations no handler
issued, so the invariants are claimed of steps that take no such input. -/

namespace Sys2Proof.Machine

/-- The Demodulator is receiving (R64). -/
abbrev State.sampling (s : State) : Prop :=
  s.dm.state = .samplingDataBit ∨ s.dm.state = .samplingParityBit

/-- A reply is in flight (R64). -/
abbrev State.replying (s : State) : Prop := s.lm.state ≠ .idle

/-- (I1) Not both directions are armed. -/
abbrev State.oneDirectionArmed (s : State) : Prop :=
  s.replying → s.dm.state = .frameComplete ∧ s.st.en = false ∧ s.st.sampleIe = false ∧ s.edgeIe = false

/-- (I2) -/
abbrev State.doneExcludesReply (s : State) : Prop := ¬(s.demodDone = true ∧ s.replying)

/-- (I3) -/
abbrev State.flagsExclusive (s : State) : Prop := ¬(s.demodDone = true ∧ s.modDone = true)

/-- (I4) -/
abbrev State.samplingArmed (s : State) : Prop :=
  s.sampling → s.st.en = true ∧ s.st.sampleIe = true ∧ s.edgeIe = false

/-- (I5) -/
abbrev State.listeningArmed (s : State) : Prop :=
  s.dm.state = .awaitingFieldEdge ∧ s.enabled = true → s.edgeIe = true ∧ s.st.sampleIe = false

/-- LM_STATE ∈ 0..11 (R86). -/
def LmState.inRange : LmState → Bool
  | .outOfRange _ => false
  | .idle | .frameDelayWait | .bitGridAlign | .startBit0 | .startBit1 | .dataBit0 | .dataBit1
  | .parityBit0 | .parityBit1 | .stopBit0 | .stopBit1 | .finished => true

/-- (I6) -/
abbrev State.lmStateInRange (s : State) : Prop := s.lm.state.inRange = true

/-- (I7) -/
abbrev State.countsInRange (s : State) : Prop :=
  s.dm.bitCount.toNat ≤ s.bitcap ∧
  (s.proto = .typeA → s.dm.parCount.toNat ≤ s.dm.bitCount.toNat / 8)

/-- (I8) -/
abbrev State.parityPosition (s : State) : Prop :=
  s.proto = .typeA ∧ s.dm.state = .samplingParityBit →
    0 < s.dm.bitCount.toNat ∧ s.dm.bitCount.toNat % 8 = 0 ∧
    s.dm.parCount.toNat = s.dm.bitCount.toNat / 8 - 1

/-- The invariants of R35, (I1) to (I8). -/
abbrev State.ruleInvariants (s : State) : Prop :=
  s.oneDirectionArmed ∧ s.doneExcludesReply ∧ s.flagsExclusive ∧ s.samplingArmed ∧ s.listeningArmed ∧
  s.lmStateInRange ∧ s.countsInRange ∧ s.parityPosition

/-- The block is OFF: every register of R23 to R30 but the synchroniser is at its POR value (R294, R311). -/
abbrev State.offIsPor (s : State) : Prop :=
  s.enabled = false → s.proto = .typeA ∧ s.st = .por ∧ s.mt = .por ∧ s.edgeIe = false ∧ s.out = .por ∧
    s.dm = .por ∧ s.lm = .por ∧ s.demodDone = false ∧ s.modDone = false

/-- A completed frame has switched the receiver off (R174). -/
abbrev State.completeIsInert (s : State) : Prop :=
  s.dm.state = .frameComplete → s.st.en = false ∧ s.st.sampleIe = false ∧ s.edgeIe = false ∧
    s.st.restartEn = false ∧ s.mt.capEn = false

/-- What a set flag says of the two machines (R174, R211, R253). -/
abbrev State.flagsTellState (s : State) : Prop :=
  (s.demodDone = true → s.dm.state = .frameComplete) ∧
  (s.modDone = true → s.dm.state = .frameComplete ∧ s.lm.state = .idle ∧ s.mt.en = false)

/-- How the Modulation Timer stands (R106, R115, R200, R243). -/
abbrev State.modTimerInStep (s : State) : Prop :=
  (s.lm.state = .idle → s.mt.modIe = false ∧ s.mt.mode = .measure) ∧
  (s.replying → s.mt.en = true ∧ s.mt.modIe = true) ∧
  (s.lm.state = .frameDelayWait → s.mt.mode = .measure) ∧
  (s.replying ∧ s.lm.state ≠ .frameDelayWait → s.mt.mode = .periodic) ∧
  (s.sampling → s.mt.en = true)

/-- Without a reply in flight the antenna presents no load (R203 to R211, R244). -/
abbrev State.idleIsQuiet (s : State) : Prop :=
  s.lm.state = .idle → s.out.loadmod = false ∧ s.out.scMode = .off

/-- ST_CNT ≤ ST_PER - 1 (R104), a buffered period is a period, and a block that listens has its timer armed
(R244). -/
abbrev State.samplingTimerInStep (s : State) : Prop :=
  (s.st.en = true → 2 ≤ s.st.per.toNat ∧ s.st.cnt.toNat < s.st.per.toNat) ∧
  (s.st.bufV = true → 2 ≤ s.st.perBuf.toNat) ∧
  (s.dm.state = .awaitingFieldEdge ∧ s.enabled = true → s.st.en = true ∧ s.st.restartEn = true)

/-- SSR_LEN never reaches SPB between two ticks (R161). -/
abbrev State.windowOpen (s : State) : Prop := s.dm.ssrLen.toNat < s.spb

/-- Where the framer stands in Type A (R170 to R173). -/
abbrev State.framerA (s : State) : Prop :=
  (s.dm.state = .samplingDataBit →
    s.dm.parCount.toNat = s.dm.bitCount.toNat / 8 ∧
    (s.dm.lastKind = .none → s.dm.bitCount.toNat = 0) ∧
    (s.dm.lastKind = .data → s.dm.bitCount.toNat % 8 ≠ 0) ∧
    (s.dm.lastKind = .parity → 8 ≤ s.dm.bitCount.toNat) ∧
    (s.dm.lastKind = .pending → s.dm.bitCount.toNat = s.bitcap)) ∧
  (s.dm.state = .samplingParityBit → s.dm.lastKind = .data)

/-- Where the framer stands in Type F (R170, R173): no parity. -/
abbrev State.framerF (s : State) : Prop :=
  s.dm.parCount = 0 ∧ s.dm.state ≠ .samplingParityBit ∧
  (s.dm.state = .samplingDataBit →
    s.dm.lastKind ≠ .parity ∧ (s.dm.lastKind = .data → 1 ≤ s.dm.bitCount.toNat))

/-- Where the serialiser stands in each state of a reply (R202 to R211). -/
def State.serialiserAt (s : State) : LmState → Bool
  | .idle | .outOfRange _ => true
  | .frameDelayWait | .bitGridAlign | .startBit0 | .startBit1 => s.lm.txPos == 0
  | .dataBit0 | .dataBit1 => decide (s.lm.txPos.toNat < s.lm.txBits.toNat)
  | .parityBit0 | .parityBit1 =>
    s.proto == .typeA && decide (s.lm.txPos.toNat % 8 = 0) && decide (0 < s.lm.txPos.toNat)
      && decide (s.lm.txPos.toNat ≤ s.lm.txBits.toNat)
  | .stopBit0 | .stopBit1 | .finished => s.lm.txPos == s.lm.txBits

/-- A reply in flight has a legal length, and TX_POS never passes it (R205, R243). -/
abbrev State.serialiserInStep (s : State) : Prop :=
  (s.replying → 1 ≤ s.lm.txBits.toNat ∧ s.lm.txBits.toNat ≤ s.bitcap) ∧
  s.serialiserAt s.lm.state = true

/-- The two memories keep their canonical form and list only entries that exist (R60). -/
abbrev State.memoryOk (s : State) : Prop :=
  Memory.wf s.buf ∧ Memory.wf s.par ∧ Memory.below s.buf s.params.cap ∧ Memory.below s.par s.params.cap

/-- Between two steps no per-cycle signal is set and the host port is empty (R101). -/
abbrev State.betweenCycles (s : State) : Prop := s.sig = .clear ∧ s.hop = none

/-- The inductive invariant. -/
structure State.Inv (s : State) : Prop where
  rules : s.ruleInvariants
  paramsValid : s.params.valid
  off : s.offIsPor
  complete : s.completeIsInert
  flags : s.flagsTellState
  modTimer : s.modTimerInStep
  quiet : s.idleIsQuiet
  samplingTimer : s.samplingTimerInStep
  window : s.windowOpen
  framerTypeA : s.proto = .typeA → s.framerA
  framerTypeF : s.proto = .typeF → s.framerF
  serialiser : s.serialiserInStep
  memory : s.memoryOk
  between : s.betweenCycles

/-- An input that is no word of a replayed trace. -/
def Stimulus.notReplay : Stimulus → Bool
  | .replay _ => false
  | .cycle _ _ | .harness _ | .host _ | .task _ | .answer _ => true

/-- Every input still to come is one the hardware's ports can bring. -/
abbrev State.noReplay (s : State) : Prop := ∀ x ∈ s.inputs, Stimulus.notReplay x = true

/-! ### Runs of one handler, in the terms statements use -/

/-- `k` ticks of the Load-Modulator (R200). -/
def modTicks : Nat → State → Res
  | 0, s => .next s
  | k + 1, s => andThen (modTick s) (modTicks k)

/-- A run of sample ticks with the levels of `l` (R160). -/
def sampleTicks : List Bool → State → Res
  | [], s => .next s
  | v :: l, s => andThen (sampleTick v s) (sampleTicks l)

/-- A run of cycles with the pin levels of `l`, in which the host is silent (R101). -/
def cyclesWith : List Bool → State → Res
  | [], s => .next s
  | pin :: l, s => andThen (cycle pin s) (cyclesWith l)

/-- The half-bit states from START_BIT_0 through STOP_BIT_1 of a reply of `n` data bits: H of R213. -/
def halfBits (proto : Protocol) (n : Nat) : Nat :=
  match proto with
  | .typeA => 2 + 2 * n + 2 * (n / 8) + 2
  | .typeF => 2 + 2 * n + 2

/-- The pauses of one bit in the reader's Modified Miller code, after a bit `last`: X for 1, Y for a 0 after
a 1, Z for a 0 after a 0 (R177; R15 gives X, Y and Z). -/
def millerPauses (last b : Bool) : List Bool :=
  if b then [false, true] else if last then [false, false] else [true, false]

/-- The sense levels of the bits `l` after a bit `last`: LOW is a pause (R15). -/
def millerLevels (last : Bool) : List Bool → List Bool
  | [] => []
  | b :: l => (millerPauses last b).map (!·) ++ millerLevels b l

/-- The sense levels of a whole frame after its start bit, in half-bits: the bits, the end-of-frame's logic
0, and a Y (R177). -/
def frameLevels (bits : List Bool) : List Bool := millerLevels false (bits ++ [false]) ++ [true, true]

end Sys2Proof.Machine
end

