-- ==== Sys2Proof/Certificates/Slice0/Obligations.lean ====
section
/-! DEFINITION. The statements for the provers. Each docstring names the rules of spec/ it formalises. A state
is any state: where a statement holds only of states a run reaches, it says so by `State.Inv`. -/

open Sys2Proof Sys2Proof.Machine

/-- `s` with one model fault recorded and the result 0: all that a refusal does (R240, R285). -/
def Sys2Proof.Machine.State.recorded (s : State) (r : FaultReason) (w : Word) : State :=
  { s with faults := s.faults ++ [{ reason := r, cycle := s.cycle, word := w }], result := 0 }

/-- The Sampling Timer after the restart-on-edge of R103. -/
def Sys2Proof.Machine.State.timerAfterEdge (s : State) : SamplingTimer :=
  if s.st.en = true ∧ s.st.restartEn = true then
    (if s.st.bufV = true then { s.st with cnt := 0, per := s.st.perBuf, cc := s.st.ccBuf, bufV := false }
     else { s.st with cnt := 0 })
  else s.st

/-- The state after EV_SAMPLE_TICK's end_of_frame (R174), told register by register: `n`, `k` are BIT_COUNT and
PAR_COUNT, `last` is LASTBIT. -/
def Sys2Proof.Machine.State.frameEnded (s : State) (cause : ErrCause) (n k : Half) (last prev : Bool)
    (kind : LastKind) : State :=
  { s with
    st := { s.st with en := false, restartEn := false, sampleIe := false, bufV := false, cnt := 0 }
    mt := { s.mt with
      cmp := s.mt.cap + (if last then s.params.fdtClks1 else s.params.fdtClks0), capEn := false }
    dm := { state := .frameComplete, ssr := 0, ssrLen := 0, idleCnt := 0, bitCount := n, parCount := k,
            lastBit := last, prevBit := prev, lastKind := kind, errCause := cause }
    demodDone := true }

/-- The state after the subcarrier generator of R107, written from the rule. -/
def Sys2Proof.Machine.State.subcarrierStepped (s : State) : State :=
  { s with out :=
      if s.out.scMode = .ook then
        (if s.out.scCnt.toNat + 1 < s.out.scDiv.toNat then { s.out with scCnt := s.out.scCnt + 1 }
         else { s.out with scCnt := 0, scLvl := !s.out.scLvl })
      else { s.out with scCnt := 0, scLvl := false } }

/-- A sample tick fires (R109, R101 phase 4 but for the compare). -/
abbrev Sys2Proof.Machine.State.tickEnabled (s : State) : Prop :=
  s.enabled = true ∧ s.st.en = true ∧ s.st.sampleIe = true

/-- A modulation tick fires (R109, R101 phase 5 but for the match). -/
abbrev Sys2Proof.Machine.State.modTickEnabled (s : State) : Prop :=
  s.enabled = true ∧ s.mt.en = true ∧ s.mt.modIe = true

/-- The sample at level `v` fills the window, which classifies as `r` (R160, R161). -/
abbrev Sys2Proof.Machine.State.windowFills (s : State) (v : Bool) (r : WindowClass) : Prop :=
  (s.dm.ssrLen + 1).toNat = s.spb ∧ (shiftSample v s).classify = r

/-- IDLE_CNT after a sample at level `v` (R160). -/
def Sys2Proof.Machine.State.idleAfter (s : State) (v : Bool) : BitVec 8 :=
  BitVec.ofNat 8 (if v then min (s.dm.idleCnt.toNat + 1) 255 else 0)

/-! ### Encoding -/

/-- R82 and the encodings of spec/95 V9.1: words written out from the map decode to what they stand for. -/
def Obligations.MapWordsDecode : Prop :=
  decode 0x2001000000000000 = .ok (.lcInit .typeF) ∧
  decode 0x2401000E00000000 = .ok (.ctlArmReply true 14) ∧
  decode 0x2800000000440000 = .ok (.bufWrite 0 0x44) ∧
  decode 0x0200000400020000 = .ok (.tsScheduleNextSample 4 2) ∧
  decode 0x0801000200000000 = .ok (.tsSetSubcarrier 1 2) ∧
  decode 0x1201000000000000 = .ok (.evSampleTick true)

/-- R80, R82: every instruction, with every operand at every value, is what its word decodes to, and the word
is of its class. -/
def Obligations.DecodeOfEncode : Prop :=
  ∀ i : Instr, decode (encode i) = .ok i ∧ wordClass (encode i) = some i.opClass

/-- R80, R82: a word that decodes is the one word of its instruction, so an unused bit is never ignored. -/
def Obligations.EncodeOfDecode : Prop :=
  ∀ (w : Word) (i : Instr), decode w = .ok i → encode i = w

/-- R85: an illegal opcode is refused by ILLEGAL_OPCODE on every port; a word of a legal opcode that is no
instruction's word, a reserved bit set for one, is refused by RESERVED_NONZERO on the port of its class. A
refused word changes no register. That the harness port and the replay record the two faults as the host port
does is log entry 18, and the cycle number and the result 0 of a word refused outside any cycle are log entry 28. -/
def Obligations.IllegalWordsRefused : Prop :=
  ∀ (w : Word) (s : State),
    ((fieldOpc w = 0x00 ∨ fieldOpc w = 0x0E ∨ fieldOpc w = 0x0F ∨
        (0x14 ≤ (fieldOpc w).toNat ∧ (fieldOpc w).toNat ≤ 0x1F) ∨ fieldOpc w = 0x22 ∨
        0x2B ≤ (fieldOpc w).toNat) →
      hostWord w s = s.recorded .illegalOpcode w ∧
      harnessPort w s = .next (s.recorded .illegalOpcode w) ∧
      replayPort w s = .next (s.recorded .illegalOpcode w)) ∧
    ((fieldR w ≠ 0 ∨ ∀ i, encode i ≠ w) →
      (wordClass w = some .host → hostWord w s = s.recorded .reservedNonzero w) ∧
      (wordClass w = some .event → harnessPort w s = .next (s.recorded .reservedNonzero w)) ∧
      (wordClass w = some .internal → replayPort w s = .next (s.recorded .reservedNonzero w)))

/-- R81, R84: a word of class INTERNAL or EVENT on the host port is NOT_HOST_OP whatever its other bits are,
and neither the harness port nor a replayed trace takes a word of another class, nor the harness port a handler's
event at the cycle level. That not taking one stops the run, and that the class is looked at before the unused
bits, is log entry 18. -/
def Obligations.WrongPortRefused : Prop :=
  ∀ (w : Word) (s : State),
    (wordClass w = some .internal ∨ wordClass w = some .event → hostWord w s = s.recorded .notHostOp w) ∧
    (wordClass w = some .internal ∨ wordClass w = some .host → harnessPort w s = .refused .notHarnessOp) ∧
    (wordClass w = some .event ∨ wordClass w = some .host → replayPort w s = .refused .notReplayOp) ∧
    (s.view = .cycleLevel → ∀ v, harnessPort (encode .evEdge) s = .refused .eventAtCycleLevel ∧
      harnessPort (encode .evModTick) s = .refused .eventAtCycleLevel ∧
      harnessPort (encode (.evSampleTick v)) s = .refused .eventAtCycleLevel)

/-! ### Reset and the life cycle -/

/-- R310: what power-on reset leaves, for every parameter set, and that `State.reset` is such a state. SENSE,
BUF and PAR are not stated: the spec gives them no value. The parameters of `State.reset` are log entry 3. -/
def Obligations.PowerOnValues : Prop :=
  State.reset = State.por Config.resetParams ∧
  ∀ p : Params,
    (State.por p).enabled = false ∧ (State.por p).proto = .typeA ∧
    (State.por p).sync1 = false ∧ (State.por p).sync2 = false ∧
    (State.por p).st = { en := false, cnt := 0, per := 0xFFFF, cc := 0xFFFF, perBuf := 0, ccBuf := 0,
                         bufV := false, restartEn := false, sampleIe := false } ∧
    (State.por p).mt = { en := false, mode := .measure, cnt := 0, per := 0xFFFF, cmp := 0, cap := 0,
                         capEn := false, modIe := false } ∧
    (State.por p).edgeIe = false ∧
    (State.por p).out = { loadmod := false, scMode := .off, scDiv := 1, scCnt := 0, scLvl := false } ∧
    (State.por p).dm = { state := .awaitingFieldEdge, ssr := 0, ssrLen := 0, idleCnt := 0, bitCount := 0,
                         parCount := 0, lastBit := false, prevBit := false, lastKind := .none, errCause := .none } ∧
    (State.por p).lm = { state := .idle, txBits := 0, txPos := 0, txCur := false, txAcc := true,
                         txOwnPar := false } ∧
    (State.por p).demodDone = false ∧ (State.por p).modDone = false ∧
    (State.por p).faults = [] ∧ (State.por p).cycle = 0 ∧
    (State.por p).loadEn = false ∧ (State.por p).scOut = false ∧ (State.por p).ant = false ∧
    (State.por p).params = p

/-- R241: LC_INIT from the OFF state sets PROTO and ENABLED and leaves every other register at its RST value;
BUF, PAR, SYNC1, SYNC2 and FAULTS are kept, and ST_FRESH is set. While enabled it is refused by
ALREADY_ENABLED and changes nothing. -/
def Obligations.InitSelectsProtocolAndListens : Prop :=
  ∀ (p : Protocol) (s : State),
    (s.enabled = false →
      exec (.lcInit p) s = .next { s with
        enabled := true, proto := p, edgeIe := true, demodDone := false, modDone := false, result := 0
        st := { en := true, cnt := 0, cc := 0xFFFF, perBuf := 0, ccBuf := 0, bufV := false, restartEn := true,
                sampleIe := false,
                per := match p with | .typeA => s.params.tBit | .typeF => s.params.tFirstF }
        mt := { en := false, mode := .measure, cnt := 0, per := 0xFFFF, cmp := 0, cap := 0, capEn := false,
                modIe := false }
        out := { loadmod := false, scMode := .off, scDiv := 1, scCnt := 0, scLvl := false }
        dm := { state := .awaitingFieldEdge, ssr := 0, ssrLen := 0, idleCnt := 0, bitCount := 0, parCount := 0,
                lastBit := false, prevBit := false, lastKind := .none, errCause := .none }
        lm := { state := .idle, txBits := 0, txPos := 0, txCur := false, txAcc := true, txOwnPar := false }
        sig := { s.sig with stFresh := true } }) ∧
    (s.enabled = true → exec (.lcInit p) s = .next (s.recorded .alreadyEnabled (encode (.lcInit p))))

/-- R242: LC_DEINIT gives every register of R23 to R30 its POR value; SYNC1, SYNC2, BUF, PAR and FAULTS are
kept. While disabled it is refused by NOT_ENABLED. -/
def Obligations.DeinitGivesPowerOnRegisters : Prop :=
  ∀ s : State,
    (s.enabled = true →
      exec .lcDeinit s = .next { s with
        enabled := false, proto := .typeA, edgeIe := false, demodDone := false, modDone := false, result := 0
        st := { en := false, cnt := 0, per := 0xFFFF, cc := 0xFFFF, perBuf := 0, ccBuf := 0, bufV := false,
                restartEn := false, sampleIe := false }
        mt := { en := false, mode := .measure, cnt := 0, per := 0xFFFF, cmp := 0, cap := 0, capEn := false,
                modIe := false }
        out := { loadmod := false, scMode := .off, scDiv := 1, scCnt := 0, scLvl := false }
        dm := { state := .awaitingFieldEdge, ssr := 0, ssrLen := 0, idleCnt := 0, bitCount := 0, parCount := 0,
                lastBit := false, prevBit := false, lastKind := .none, errCause := .none }
        lm := { state := .idle, txBits := 0, txPos := 0, txCur := false, txAcc := true, txOwnPar := false } }) ∧
    (s.enabled = false → exec .lcDeinit s = .next (s.recorded .notEnabled (encode .lcDeinit)))

/-- R244: CTL_RESTART_DEMOD gives every register its RST value in every enabled state; BUF, PAR, PROTO,
ENABLED, SYNC1, SYNC2 and FAULTS are kept. While disabled it is refused by NOT_ENABLED. -/
def Obligations.RestartGivesRstRegisters : Prop :=
  ∀ s : State,
    (s.enabled = true →
      exec .ctlRestartDemod s = .next { s with
        edgeIe := true, demodDone := false, modDone := false, result := 0
        st := { en := true, cnt := 0, cc := 0xFFFF, perBuf := 0, ccBuf := 0, bufV := false, restartEn := true,
                sampleIe := false,
                per := match s.proto with | .typeA => s.params.tBit | .typeF => s.params.tFirstF }
        mt := { en := false, mode := .measure, cnt := 0, per := 0xFFFF, cmp := 0, cap := 0, capEn := false,
                modIe := false }
        out := { loadmod := false, scMode := .off, scDiv := 1, scCnt := 0, scLvl := false }
        dm := { state := .awaitingFieldEdge, ssr := 0, ssrLen := 0, idleCnt := 0, bitCount := 0, parCount := 0,
                lastBit := false, prevBit := false, lastKind := .none, errCause := .none }
        lm := { state := .idle, txBits := 0, txPos := 0, txCur := false, txAcc := true, txOwnPar := false }
        sig := { s.sig with stFresh := true } }) ∧
    (s.enabled = false →
      exec .ctlRestartDemod s = .next (s.recorded .notEnabled (encode .ctlRestartDemod)))

/-- R312: restart is total and forgets. From any two enabled states of one protocol and parameter set, however
different, it leaves the same registers; and a second restart leaves the state of the first. -/
def Obligations.RestartForgetsHistory : Prop :=
  (∀ s s' t t' : State, s.enabled = true → s'.enabled = true → s.proto = s'.proto → s.params = s'.params →
    exec .ctlRestartDemod s = .next t → exec .ctlRestartDemod s' = .next t' →
    t.enabled = t'.enabled ∧ t.proto = t'.proto ∧ t.st = t'.st ∧ t.mt = t'.mt ∧ t.edgeIe = t'.edgeIe ∧
    t.out = t'.out ∧ t.dm = t'.dm ∧ t.lm = t'.lm ∧ t.demodDone = t'.demodDone ∧ t.modDone = t'.modDone) ∧
  (∀ s : State, s.enabled = true → ∃ t, exec .ctlRestartDemod s = .next t ∧
    exec .ctlRestartDemod t = .next t)

/-! ### Timing Substrate words -/

/-- R110, R111, R112: the three Sampling Timer words write what their rules list and nothing else. ST_FRESH is
set when TS_ARM_SAMPLING runs in phase 1; that the replayed word runs outside any phase, and so leaves ST_FRESH
alone, is log entry 15. -/
def Obligations.SamplingTimerWords : Prop :=
  ∀ (p o : Half) (s : State),
    (2 ≤ p.toNat →
      exec (.tsArmSampling p) s = .next { s with st := { s.st with
        en := true, cnt := 0, per := p, cc := 0xFFFF, bufV := false, restartEn := true } }) ∧
    (2 ≤ p.toNat →
      exec (.tsArmSampling p) s = .next { armSamplingFresh p s with sig := s.sig } ∧
      (armSamplingFresh p s).sig = { s.sig with stFresh := true }) ∧
    (2 ≤ p.toNat → (o.toNat < p.toNat ∨ o = 0xFFFF) →
      exec (.tsScheduleNextSample p o) s = .next { s with st := { s.st with
        perBuf := p, ccBuf := o, bufV := true } }) ∧
    exec .tsDisarmSampling s = .next { s with st := { s.st with
      en := false, restartEn := false, sampleIe := false, bufV := false, cnt := 0 } }

/-- R113, R114, R115, R116: the four Modulation Timer words write what their rules list and nothing else. -/
def Obligations.ModulationTimerWords : Prop :=
  ∀ (p : Half) (b : Bool) (s : State),
    exec (.tsArmModulation .measure 0) s = .next { s with mt := { s.mt with
      en := true, cnt := 0, mode := .measure, per := 0xFFFF, cmp := 0, cap := 0, capEn := true } } ∧
    (2 ≤ p.toNat →
      exec (.tsArmModulation .periodic p) s = .next { s with mt := { s.mt with
        en := true, cnt := 0, mode := .periodic, per := p, capEn := false } }) ∧
    exec .tsDisarmModulation s = .next { s with mt := { s.mt with
      en := false, modIe := false, capEn := false, cnt := 0, mode := .measure } } ∧
    (2 ≤ p.toNat → s.mt.mode = .measure →
      exec (.tsSetModPeriod p) s = .next { s with mt := { s.mt with
        per := p, mode := .periodic, cnt := 0, capEn := false } }) ∧
    (2 ≤ p.toNat → s.mt.mode = .periodic →
      exec (.tsSetModPeriod p) s = .next { s with mt := { s.mt with per := p } }) ∧
    exec (.tsLockFdt b) s = .next { s with mt := { s.mt with
      capEn := false
      cmp := BitVec.ofNat 16
        (s.mt.cap.toNat + (if b then s.params.fdtClks1 else s.params.fdtClks0).toNat) } }

/-- R118, R119, R120, R121, R122, R123: the output, input and enable words; a read returns SYNC2 and writes
nothing. -/
def Obligations.OutputInputAndEnableWords : Prop :=
  ∀ (m : ScMode) (d : Half) (b : Bool) (s : State),
    (1 ≤ d.toNat →
      exec (.tsSetSubcarrier (scModeCode m) d) s = .next { s with out := { s.out with
        scMode := m, scDiv := d, scCnt := 0, scLvl := false } }) ∧
    exec (.tsSetLoadmod b) s = .next { s with out := { s.out with loadmod := b } } ∧
    exec .tsReadInput s = .next { s with result := if s.sync2 then 1 else 0 } ∧
    exec (.tsSetEdgeIrq b) s = .next { s with edgeIe := b } ∧
    exec (.tsSetSampleIrq b) s = .next { s with st := { s.st with sampleIe := b } } ∧
    exec (.tsSetModIrq b) s = .next { s with mt := { s.mt with modIe := b } }

/-- R83 with R113: an INTERNAL word with an operand outside its form is BAD_OPERAND and changes nothing; with
legal operands it never records a fault. That a MEASURE arm with a period is such an operand is log entry 9, and the
cycle number and the result 0 of a word refused outside any cycle are log entry 28. -/
def Obligations.InternalOperandsChecked : Prop :=
  ∀ (i : Instr) (s : State), i.opClass = .internal →
    (i.wellFormed = false → exec i s = .next (s.recorded .badOperand (encode i))) ∧
    (i.wellFormed = true → ∃ t, exec i s = .next t ∧ t.faults = s.faults ∧ t.buf = s.buf ∧ t.par = s.par ∧
      t.dm = s.dm ∧ t.lm = s.lm ∧ t.enabled = s.enabled ∧ t.proto = s.proto ∧
      t.demodDone = s.demodDone ∧ t.modDone = s.modDone ∧ t.cycle = s.cycle)

/-- R104: with no restart and no pending load, a cycle of the Sampling Timer lasts exactly ST_PER cycles of
CLK: after `k` counts from 0 the count is `k` modulo the period. -/
def Obligations.SamplingTimerPeriod : Prop :=
  ∀ (k : Nat) (s : State), s.st.bufV = false → s.st.cnt = 0 → 2 ≤ s.st.per.toNat →
    (countSampling^[k] s).st.cnt.toNat = k % s.st.per.toNat ∧
    (countSampling^[k] s).st.per = s.st.per ∧ (countSampling^[k] s).st.cc = s.st.cc

/-- R106: one count of the Modulation Timer in each mode, and when it matches. That an MT_PER of 0, which no rule
writes, wraps at once (the test of R106 taken on whole numbers) is log entry 11. -/
def Obligations.ModulationTimerCountAndMatch : Prop :=
  ∀ s : State,
    (s.mt.mode = .measure →
      countModulation s = { s with mt := { s.mt with cnt := s.mt.cnt + 1 } } ∧
      (s.modMatch = true ↔ s.mt.cnt = s.mt.cmp)) ∧
    (s.mt.mode = .periodic → (s.modMatch = true ↔ s.sig.mtWrap = true)) ∧
    (s.mt.mode = .periodic → s.mt.cnt.toNat + 1 < s.mt.per.toNat →
      countModulation s = { s with mt := { s.mt with cnt := s.mt.cnt + 1 } }) ∧
    (s.mt.mode = .periodic → s.mt.per.toNat ≤ s.mt.cnt.toNat + 1 →
      countModulation s = { s with mt := { s.mt with cnt := 0 }, sig := { s.sig with mtWrap := true } })

/-- R107: in OOK mode SC_OUT is a square wave of period 2·SC_DIV, low first, however long it runs. -/
def Obligations.SubcarrierSquareWave : Prop :=
  ∀ (k : Nat) (s : State), s.out.scMode = .ook → s.out.scCnt = 0 → s.out.scLvl = false →
    1 ≤ s.out.scDiv.toNat →
    (subcarrierStep^[k] s).scOut = decide (k / s.out.scDiv.toNat % 2 = 1)

/-- R107, R108: the outputs in the two modes without a square wave, and the antenna load. -/
def Obligations.AntennaLoad : Prop :=
  ∀ s : State,
    s.loadEn = s.out.loadmod ∧ s.ant = (s.loadEn && s.scOut) ∧
    (s.out.scMode = .off → s.scOut = false ∧ s.ant = false) ∧
    (s.out.scMode = .direct → s.scOut = true) ∧
    (s.out.scMode = .ook → s.scOut = s.out.scLvl) ∧
    (s.out.scMode ≠ .ook →
      subcarrierStep s = { s with out := { s.out with scCnt := 0, scLvl := false } }) ∧
    (s.carriesSubcarrier = true ↔ s.loadEn = true ∧ s.out.scMode ≠ .off)

/-! ### Edges -/

/-- R150 (with R103): the first edge while listening. The timer restarts, first_edge disables itself, schedules
the slot, arms the Modulation Timer in MEASURE mode and starts the frame; nothing else changes, and BUF and
PAR are not cleared. In another state the handler only disables itself, after the restart and the capture. -/
def Obligations.FirstEdgeStartsFrame : Prop :=
  ∀ s : State, s.enabled = true → s.edgeIe = true →
    (s.dm.state = .awaitingFieldEdge →
      exec .evEdge s = .next { s with
        edgeIe := false
        st := { s.timerAfterEdge with
          bufV := true, sampleIe := true, ccBuf := s.params.ccSlot
          perBuf := match s.proto with
            | .typeA => BitVec.ofNat 16 (s.params.tBit.toNat / 2)
            | .typeF => s.params.tSlotF }
        mt := { s.mt with
          en := true, mode := .measure, cnt := 0, per := 0xFFFF, cmp := 0, cap := 0, capEn := true }
        dm := { state := .samplingDataBit, ssr := 0, ssrLen := 0, idleCnt := 0, bitCount := 0, parCount := 0,
                lastBit := false, prevBit := false, lastKind := .none, errCause := .none } }) ∧
    (s.dm.state ≠ .awaitingFieldEdge →
      exec .evEdge s = .next { s with
        edgeIe := false
        st := s.timerAfterEdge
        mt := if s.mt.en = true ∧ s.mt.mode = .measure ∧ s.mt.capEn = true then
          { s.mt with cap := s.mt.cnt } else s.mt })

/-- R151, R103: a later edge runs no handler. It restarts the Sampling Timer where that is enabled, and
captures the MEASURE count into MT_CAP where that is. -/
def Obligations.LaterEdgeOnlyRelocks : Prop :=
  ∀ s : State, s.enabled = true → s.edgeIe = false →
    exec .evEdge s = .next { s with
      st := s.timerAfterEdge
      mt := if s.mt.en = true ∧ s.mt.mode = .measure ∧ s.mt.capEn = true then
        { s.mt with cap := s.mt.cnt } else s.mt }

/-- R109, R283: an event whose source is not enabled has no effect (that EV_EDGE has none while ENABLED = 0 is
log entry 12). R175: in FRAME_COMPLETE a sample tick changes
nothing, and an edge changes no Demodulator register. R200, R212: a modulation tick in IDLE or in an
out-of-range state changes nothing. -/
def Obligations.EventsWithoutEffect : Prop :=
  ∀ (v : Bool) (l : BitVec 2) (s : State),
    (s.enabled = false → exec .evEdge s = .next s) ∧
    (¬ s.tickEnabled → exec (.evSampleTick v) s = .next s) ∧
    (¬ s.modTickEnabled → exec .evModTick s = .next s) ∧
    (s.dm.state = .frameComplete → exec (.evSampleTick v) s = .next s) ∧
    (s.dm.state = .frameComplete →
      ∃ t, exec .evEdge s = .next t ∧ t.dm = s.dm ∧ t.demodDone = s.demodDone) ∧
    (s.lm.state = .outOfRange l ∨ s.lm.state = .idle → exec .evModTick s = .next s)

/-! ### Receiving -/

/-- R162: the Modified-Miller table, for every window and either last bit. -/
def Obligations.MillerTable : Prop :=
  ∀ s : State, s.proto = .typeA →
    (s.dm.ssr.getLsbD 1 = false → s.dm.ssr.getLsbD 0 = true → s.classify = .one) ∧
    (s.dm.ssr.getLsbD 1 = true → s.dm.ssr.getLsbD 0 = false → s.classify = .zero) ∧
    (s.dm.ssr.getLsbD 1 = false → s.dm.ssr.getLsbD 0 = false → s.dm.lastBit = true → s.classify = .zero) ∧
    (s.dm.ssr.getLsbD 1 = false → s.dm.ssr.getLsbD 0 = false → s.dm.lastBit = false → s.classify = .eof) ∧
    (s.dm.ssr.getLsbD 1 = true → s.dm.ssr.getLsbD 0 = true → s.classify = .garbage)

/-- R163: the Manchester classifier. The halves are the first and the last SPB_F / 2 samples, so the middle
one of five is ignored; a window without a pause is EOF; anything else is GARBAGE. -/
def Obligations.ManchesterWindows : Prop :=
  ∀ (s : State) (h : Nat), s.proto = .typeF → s.params.fCode = .manchester →
    (s.params.spbF = 5 ∨ s.params.spbF = 6) → h = s.params.spbF / 2 →
    ((∀ i < h, s.dm.ssr.getLsbD (s.params.spbF - 1 - i) = true) ∧ (∀ i < h, s.dm.ssr.getLsbD i = false) →
      s.classify = if s.params.fOneFirstHalfPause then .one else .zero) ∧
    ((∀ i < h, s.dm.ssr.getLsbD (s.params.spbF - 1 - i) = false) ∧ (∀ i < h, s.dm.ssr.getLsbD i = true) →
      s.classify = if s.params.fOneFirstHalfPause then .zero else .one) ∧
    ((∀ i < s.params.spbF, s.dm.ssr.getLsbD i = false) → s.classify = .eof) ∧
    (¬ ((∀ i < h, s.dm.ssr.getLsbD (s.params.spbF - 1 - i) = true) ∧ ∀ i < h, s.dm.ssr.getLsbD i = false) →
     ¬ ((∀ i < h, s.dm.ssr.getLsbD (s.params.spbF - 1 - i) = false) ∧ ∀ i < h, s.dm.ssr.getLsbD i = true) →
     ¬ (∀ i < s.params.spbF, s.dm.ssr.getLsbD i = false) → s.classify = .garbage)

/-- R164: the NRZ classifier. A window of one level is a bit, ONE when the level is F_ONE_FIRST_HALF_PAUSE; a
mixed window is GARBAGE, and there is no EOF. -/
def Obligations.NrzWindows : Prop :=
  ∀ (s : State) (v : Bool), s.proto = .typeF → s.params.fCode = .nrz →
    (s.params.spbF = 5 ∨ s.params.spbF = 6) →
    ((∀ i < s.params.spbF, s.dm.ssr.getLsbD i = v) →
      s.classify = if v = s.params.fOneFirstHalfPause then .one else .zero) ∧
    ((∃ i < s.params.spbF, s.dm.ssr.getLsbD i = true) → (∃ i < s.params.spbF, s.dm.ssr.getLsbD i = false) →
      s.classify = .garbage) ∧
    s.classify ≠ .eof

/-- R160, R167: a sample that does not fill the window shifts in and counts inactivity, and when N_IDLE
pause-free samples have been seen it ends the frame, by OVERFLOW if a bit is PENDING. Nothing else changes. -/
def Obligations.SampleInOpenWindow : Prop :=
  ∀ (v : Bool) (s : State), s.tickEnabled → s.sampling → (s.dm.ssrLen + 1).toNat ≠ s.spb →
    ((s.idleAfter v).toNat < s.nIdle.toNat →
      exec (.evSampleTick v) s = .next { s with dm := { s.dm with
        ssr := s.dm.ssr <<< 1 ||| (if v then 0 else 1), ssrLen := s.dm.ssrLen + 1
        idleCnt := s.idleAfter v } }) ∧
    (s.nIdle.toNat ≤ (s.idleAfter v).toNat →
      exec (.evSampleTick v) s = .next (s.frameEnded (if s.dm.lastKind = .pending then .overflow else .none)
        s.dm.bitCount s.dm.parCount s.dm.lastBit s.dm.prevBit s.dm.lastKind))

/-- R170: a decoded data bit. It is stored at its place, the first bit of a Type A byte clears the byte, the
eighth moves to the parity state, and every other BUF entry, PAR and every register not named keep their
values. When the same sample brings IDLE_CNT to N_IDLE, the stored bit is the frame's last: the frame ends in that
tick with no error (R160, R167). -/
def Obligations.DataBitStored : Prop :=
  ∀ (v b : Bool) (s : State), s.tickEnabled → s.dm.state = .samplingDataBit →
    s.windowFills v (if b then .one else .zero) → s.dm.lastKind ≠ .pending →
    s.dm.bitCount.toNat < s.bitcap →
    ∃ t, exec (.evSampleTick v) s = .next t ∧
      ((s.idleAfter v).toNat < s.nIdle.toNat →
        { t with buf := s.buf } = { s with dm :=
          { state := if s.proto = .typeA ∧ (s.dm.bitCount + 1).toNat % 8 = 0 then .samplingParityBit
              else .samplingDataBit
            ssr := 0, ssrLen := 0, idleCnt := s.idleAfter v, bitCount := s.dm.bitCount + 1
            parCount := s.dm.parCount, lastBit := b, prevBit := s.dm.lastBit, lastKind := .data
            errCause := s.dm.errCause } }) ∧
      (s.nIdle.toNat ≤ (s.idleAfter v).toNat →
        { t with buf := s.buf } =
          s.frameEnded .none (s.dm.bitCount + 1) s.dm.parCount b s.dm.lastBit .data) ∧
      (s.proto = .typeA → ∀ j < 8,
        (t.readBuf (s.dm.bitCount.toNat / 8)).getLsbD j =
          if j = s.dm.bitCount.toNat % 8 then b
          else if s.dm.bitCount.toNat % 8 = 0 then false
          else (s.readBuf (s.dm.bitCount.toNat / 8)).getLsbD j) ∧
      (s.proto = .typeF → t.readBuf s.dm.bitCount.toNat = if b then 1 else 0) ∧
      (∀ i, i ≠ (match s.proto with
          | .typeA => s.dm.bitCount.toNat / 8
          | .typeF => s.dm.bitCount.toNat) → t.readBuf i = s.readBuf i)

/-- R171: a decoded parity bit goes to PAR at the byte just closed and is not checked; BUF, every other PAR
entry and every register not named keep their values. When the same sample brings IDLE_CNT to N_IDLE, the frame
ends in that tick with no error (R160, R167). -/
def Obligations.ParityBitStored : Prop :=
  ∀ (v b : Bool) (s : State), s.tickEnabled → s.dm.state = .samplingParityBit →
    s.windowFills v (if b then .one else .zero) → s.dm.lastKind ≠ .pending →
    8 ≤ s.dm.bitCount.toNat → s.dm.bitCount.toNat / 8 ≤ s.params.cap →
    ∃ t, exec (.evSampleTick v) s = .next t ∧
      ((s.idleAfter v).toNat < s.nIdle.toNat →
        { t with par := s.par } = { s with dm :=
          { state := .samplingDataBit, ssr := 0, ssrLen := 0, idleCnt := s.idleAfter v
            bitCount := s.dm.bitCount, parCount := s.dm.parCount + 1, lastBit := b
            prevBit := s.dm.lastBit, lastKind := .parity, errCause := s.dm.errCause } }) ∧
      (s.nIdle.toNat ≤ (s.idleAfter v).toNat →
        { t with par := s.par } =
          s.frameEnded .none s.dm.bitCount (s.dm.parCount + 1) b s.dm.lastBit .parity) ∧
      t.readPar (s.dm.bitCount.toNat / 8 - 1) = b ∧
      (∀ i, i ≠ s.dm.bitCount.toNat / 8 - 1 → t.readPar i = s.readPar i)

/-- R173: a data bit with no room is not stored but held PENDING; then any window but a Type A EOF ends the
frame with OVERFLOW, and so does inactivity, in the same tick when that sample brings IDLE_CNT to N_IDLE (R167). BUF
and PAR do not change. -/
def Obligations.OverflowHeldThenReported : Prop :=
  ∀ (v b : Bool) (r : WindowClass) (s : State), s.tickEnabled →
    (s.dm.state = .samplingDataBit → s.windowFills v (if b then .one else .zero) →
      s.dm.lastKind ≠ .pending → s.dm.bitCount.toNat = s.bitcap →
      ((s.idleAfter v).toNat < s.nIdle.toNat →
        exec (.evSampleTick v) s = .next { s with dm := { s.dm with
          ssr := 0, ssrLen := 0, idleCnt := s.idleAfter v, lastBit := b, prevBit := s.dm.lastBit
          lastKind := .pending } }) ∧
      (s.nIdle.toNat ≤ (s.idleAfter v).toNat →
        exec (.evSampleTick v) s = .next (s.frameEnded .overflow s.dm.bitCount s.dm.parCount b s.dm.lastBit
          .pending))) ∧
    (s.sampling → s.windowFills v r → s.dm.lastKind = .pending → (r ≠ .eof ∨ s.proto = .typeF) →
      exec (.evSampleTick v) s = .next (s.frameEnded .overflow s.dm.bitCount s.dm.parCount s.dm.lastBit
        s.dm.prevBit .pending))

/-- R165: a full window that matches nothing ends the frame with GARBAGE and stores nothing; the bits before
it, BIT_COUNT and PAR_COUNT stay. -/
def Obligations.GarbageEndsFrame : Prop :=
  ∀ (v : Bool) (s : State), s.tickEnabled → s.sampling → s.windowFills v .garbage →
    s.dm.lastKind ≠ .pending →
    exec (.evSampleTick v) s = .next (s.frameEnded .garbage s.dm.bitCount s.dm.parCount s.dm.lastBit
      s.dm.prevBit s.dm.lastKind)

/-- R166, R172: a Type A EOF retracts the logic 0 before it (a data bit, a parity bit, or nothing for the start
bit and a pending bit), and then ends the frame; a Type F EOF retracts nothing. Only the retracted entry of
BUF or PAR may change. -/
def Obligations.EofRetractsItsZero : Prop :=
  ∀ (v : Bool) (s : State), s.tickEnabled → s.sampling → s.windowFills v .eof →
    (s.proto = .typeF → s.dm.lastKind ≠ .pending →
      exec (.evSampleTick v) s = .next (s.frameEnded .none s.dm.bitCount s.dm.parCount s.dm.lastBit
        s.dm.prevBit s.dm.lastKind)) ∧
    (s.proto = .typeA → (s.dm.lastKind = .none ∨ s.dm.lastKind = .pending) →
      exec (.evSampleTick v) s = .next (s.frameEnded .none s.dm.bitCount s.dm.parCount s.dm.prevBit
        s.dm.prevBit .none)) ∧
    (s.proto = .typeA → s.dm.lastKind = .data → 1 ≤ s.dm.bitCount.toNat → s.dm.bitCount.toNat ≤ s.bitcap →
      ∃ t, exec (.evSampleTick v) s = .next t ∧
        { t with buf := s.buf } = s.frameEnded .none (s.dm.bitCount - 1) s.dm.parCount s.dm.prevBit
          s.dm.prevBit .none ∧
        (∀ i j, j < 8 → (t.readBuf i).getLsbD j =
          if i = (s.dm.bitCount.toNat - 1) / 8 ∧ j = (s.dm.bitCount.toNat - 1) % 8 then false
          else (s.readBuf i).getLsbD j)) ∧
    (s.proto = .typeA → s.dm.lastKind = .parity → 1 ≤ s.dm.parCount.toNat →
      s.dm.parCount.toNat ≤ s.params.cap →
      ∃ t, exec (.evSampleTick v) s = .next t ∧
        { t with par := s.par } = s.frameEnded .none s.dm.bitCount (s.dm.parCount - 1) s.dm.prevBit
          s.dm.prevBit .none ∧
        (∀ i, t.readPar i = if i = s.dm.parCount.toNat - 1 then false else s.readPar i))

/-- R160 (no fault) with R61: in every state of the invariant a sample tick completes, and it touches neither
the Load-Modulator, nor the outputs, nor the synchroniser, nor the life cycle, nor FAULTS. -/
def Obligations.SampleTickCompletes : Prop :=
  ∀ (v : Bool) (s : State), s.Inv →
    ∃ t, exec (.evSampleTick v) s = .next t ∧ t.lm = s.lm ∧ t.out = s.out ∧ t.enabled = s.enabled ∧
      t.proto = s.proto ∧ t.sync1 = s.sync1 ∧ t.sync2 = s.sync2 ∧ t.sense = s.sense ∧
      t.edgeIe = s.edgeIe ∧ t.modDone = s.modDone ∧ t.faults = s.faults ∧ t.cycle = s.cycle ∧
      t.mt = { s.mt with cmp := t.mt.cmp, capEn := t.mt.capEn } ∧ t.params = s.params

/-- R177, at the event level (the ideal timing of the rule is one sample tick in each half-bit): any Type A
stream of data and parity that fits the buffer, sent in the reader's Modified Miller code with its end of
frame, is received exactly: no error, every data bit and every parity bit at its place, and LASTBIT the last
bit sent. The inactivity rule cannot cut it, as N_IDLE ≥ 4 (log entry 13). -/
def Obligations.MillerFrameReceivedExactly : Prop :=
  ∀ (bits : List Bool) (s : State), s.proto = .typeA → s.params.valid →
    s.dm = { state := .samplingDataBit, ssr := 0, ssrLen := 0, idleCnt := 0, bitCount := 0, parCount := 0,
             lastBit := false, prevBit := false, lastKind := .none, errCause := .none } →
    bits.length - bits.length / 9 ≤ s.bitcap →
    ∃ t, sampleTicks (frameLevels bits) s = .next t ∧
      t.dm.state = .frameComplete ∧ t.demodDone = true ∧ t.dm.errCause = .none ∧
      t.dm.lastBit = bits.getLastD false ∧
      t.dm.bitCount.toNat = bits.length - bits.length / 9 ∧ t.dm.parCount.toNat = bits.length / 9 ∧
      (∀ (n : Nat) (b : Bool), bits[n]? = some b → n % 9 ≠ 8 →
        (t.readBuf ((n - n / 9) / 8)).getLsbD ((n - n / 9) % 8) = b) ∧
      (∀ (n : Nat) (b : Bool), bits[n]? = some b → n % 9 = 8 → t.readPar (n / 9) = b)

/-! ### Replying -/

/-- R201, R202, R203, R204, R209, R210, R211: the ticks that do not depend on the reply's bits. Each changes the
registers it names and nothing else. And the cycle that takes a tick (phases 2, 5 and 6 of R101, with R106, R123 and
R125): when no host word comes and the receiver is off, as it is in every reply, a cycle takes a modulation tick
exactly when its count reaches the match, MT_CMP in MEASURE mode (the FRAME_DELAY_WAIT tick) and the wrap in
PERIODIC mode (every later tick), and else only counts; the pin cannot disturb it. An MT_PER or SC_DIV of 0, which
no rule writes, wraps at once by log entry 11. That the FINISHED tick writes the parameter SC_DIV to the register of
that name is log entry 29. -/
def Obligations.FixedPatternTicks : Prop :=
  ∀ s : State, s.modTickEnabled →
    (s.lm.state = .frameDelayWait →
      exec .evModTick s = .next { s with
        lm := { s.lm with state := .bitGridAlign }
        mt := if s.mt.mode = .measure then
            { s.mt with per := s.params.pAlign, mode := .periodic, cnt := 0, capEn := false }
          else { s.mt with per := s.params.pAlign } }) ∧
    (s.lm.state = .bitGridAlign → s.mt.mode = .periodic →
      exec .evModTick s = .next { s with
        lm := { s.lm with state := .startBit0 }, mt := { s.mt with per := s.params.pHalfTx } }) ∧
    (s.lm.state = .bitGridAlign → s.mt.mode = .measure →
      exec .evModTick s = .next { s with
        lm := { s.lm with state := .startBit0 }
        mt := { s.mt with per := s.params.pHalfTx, mode := .periodic, cnt := 0, capEn := false } }) ∧
    (s.lm.state = .startBit0 →
      exec .evModTick s = .next { s with
        lm := { s.lm with state := .startBit1 }, out := { s.out with loadmod := true } }) ∧
    (s.lm.state = .startBit1 →
      exec .evModTick s = .next { s with
        lm := { s.lm with state := .dataBit0 }, out := { s.out with loadmod := false } }) ∧
    (s.lm.state = .stopBit0 →
      exec .evModTick s = .next { s with
        lm := { s.lm with state := .stopBit1 }, out := { s.out with loadmod := false } }) ∧
    (s.lm.state = .stopBit1 →
      exec .evModTick s = .next { s with
        lm := { s.lm with state := .finished }, out := { s.out with loadmod := false } }) ∧
    (s.lm.state = .finished →
      exec .evModTick s = .next { s with
        out := { loadmod := false, scMode := .off, scDiv := s.params.scDiv, scCnt := 0, scLvl := false }
        mt := { s.mt with en := false, modIe := false, capEn := false, cnt := 0, mode := .measure }
        modDone := true
        lm := { s.lm with state := .idle } }) ∧
    (s.betweenCycles → s.st.en = false → s.edgeIe = false → s.mt.capEn = false →
      ∀ (pin : Bool) (u : State), u = { s with sense := pin, sync1 := pin, sync2 := s.sync1 } →
        (s.lm.state = .frameDelayWait → s.mt.mode = .measure → s.mt.cnt + 1 = s.mt.cmp →
          exec (.evClk pin) s = .next { u.subcarrierStepped with
            lm := { s.lm with state := .bitGridAlign }
            mt := { s.mt with per := s.params.pAlign, mode := .periodic, cnt := 0 }
            cycle := s.cycle + 1 }) ∧
        (s.mt.mode = .measure → s.mt.cnt + 1 ≠ s.mt.cmp →
          exec (.evClk pin) s = .next { u.subcarrierStepped with
            mt := { s.mt with cnt := s.mt.cnt + 1 }, cycle := s.cycle + 1 }) ∧
        (s.mt.mode = .periodic → s.mt.per.toNat ≤ s.mt.cnt.toNat + 1 →
          exec (.evClk pin) s = andThen (exec .evModTick { u with mt := { s.mt with cnt := 0 } }) fun t =>
            .next { t.subcarrierStepped with cycle := s.cycle + 1 }) ∧
        (s.mt.mode = .periodic → s.mt.cnt.toNat + 1 < s.mt.per.toNat →
          exec (.evClk pin) s = .next { u.subcarrierStepped with
            mt := { s.mt with cnt := s.mt.cnt + 1 }, cycle := s.cycle + 1 }))

/-- R205, R206: the two halves of a data bit. The first half reads the bit from BUF, sends it (inverted in Type F
by TXF_INVERT) and accumulates parity; the second sends the complement of the first and chooses the next
state, the full-byte test first. -/
def Obligations.DataBitTicks : Prop :=
  ∀ (b : Bool) (s : State), s.modTickEnabled →
    (s.lm.state = .dataBit0 → s.proto = .typeA → s.lm.txPos.toNat / 8 < s.params.cap →
      b = (s.readBuf (s.lm.txPos.toNat / 8)).getLsbD (s.lm.txPos.toNat % 8) →
      exec .evModTick s = .next { s with
        out := { s.out with loadmod := b }
        lm := { s.lm with txCur := b, txAcc := s.lm.txAcc ^^ b, state := .dataBit1 } }) ∧
    (s.lm.state = .dataBit0 → s.proto = .typeF → s.lm.txPos.toNat < s.params.cap →
      b = (s.readBuf s.lm.txPos.toNat).getLsbD 0 →
      exec .evModTick s = .next { s with
        out := { s.out with loadmod := b ^^ s.params.txfInvert }
        lm := { s.lm with txCur := b, txAcc := s.lm.txAcc ^^ b, state := .dataBit1 } }) ∧
    (s.lm.state = .dataBit1 →
      exec .evModTick s = .next { s with
        out := { s.out with loadmod := !s.out.loadmod }
        lm := { s.lm with
          txPos := s.lm.txPos + 1
          state := if s.proto = .typeA ∧ (s.lm.txPos + 1).toNat % 8 = 0 then .parityBit0
            else if s.lm.txPos + 1 = s.lm.txBits then .stopBit0 else .dataBit0 } })

/-- R207, R208: the two halves of a parity bit: PAR[k] for own parity, never recomputed, and TX_ACC otherwise;
then its complement, and TX_ACC starts again at 1 whatever the source was. -/
def Obligations.ParityBitTicks : Prop :=
  ∀ s : State, s.modTickEnabled →
    (s.lm.state = .parityBit0 → s.lm.txOwnPar = true → 8 ≤ s.lm.txPos.toNat →
      s.lm.txPos.toNat / 8 ≤ s.params.cap →
      exec .evModTick s = .next { s with
        out := { s.out with loadmod := s.readPar (s.lm.txPos.toNat / 8 - 1) }
        lm := { s.lm with txCur := s.readPar (s.lm.txPos.toNat / 8 - 1), state := .parityBit1 } }) ∧
    (s.lm.state = .parityBit0 → s.lm.txOwnPar = false →
      exec .evModTick s = .next { s with
        out := { s.out with loadmod := s.lm.txAcc }
        lm := { s.lm with txCur := s.lm.txAcc, state := .parityBit1 } }) ∧
    (s.lm.state = .parityBit1 →
      exec .evModTick s = .next { s with
        out := { s.out with loadmod := !s.out.loadmod }
        lm := { s.lm with
          txAcc := true, state := if s.lm.txPos = s.lm.txBits then .stopBit0 else .dataBit0 } })

/-- R216, R61, R200: in every state of the invariant a modulation tick completes; the Load-Modulator only reads
BUF and PAR, and no register of the receiver, no flag but MOD_DONE and no fault record changes. -/
def Obligations.ModTickCompletes : Prop :=
  ∀ s : State, s.Inv →
    ∃ t, exec .evModTick s = .next t ∧ t.buf = s.buf ∧ t.par = s.par ∧ t.dm = s.dm ∧ t.st = s.st ∧
      t.edgeIe = s.edgeIe ∧ t.demodDone = s.demodDone ∧ t.enabled = s.enabled ∧ t.proto = s.proto ∧
      t.sync1 = s.sync1 ∧ t.sync2 = s.sync2 ∧ t.sense = s.sense ∧ t.faults = s.faults ∧
      t.cycle = s.cycle ∧ t.params = s.params ∧
      t.lm.txBits = s.lm.txBits ∧ t.lm.txOwnPar = s.lm.txOwnPar

/-- R213: a reply of `n` bits reaches IDLE with MOD_DONE after exactly H + 3 ticks, counting the
FRAME_DELAY_WAIT tick, and not before; TX_POS then equals TX_BITS and the antenna is off. -/
def Obligations.ReplyTakesHPlusThreeTicks : Prop :=
  ∀ s : State, s.params.valid → s.lm.state = .frameDelayWait → s.lm.txPos = 0 →
    1 ≤ s.lm.txBits.toNat → s.lm.txBits.toNat ≤ s.bitcap →
    (∃ t, modTicks (halfBits s.proto s.lm.txBits.toNat + 3) s = .next t ∧ t.lm.state = .idle ∧
      t.modDone = true ∧ t.lm.txPos = s.lm.txBits ∧ t.out.loadmod = false ∧ t.out.scMode = .off ∧
      t.ant = false) ∧
    (∀ k < halfBits s.proto s.lm.txBits.toNat + 3,
      ∃ t, modTicks k s = .next t ∧ t.lm.state ≠ .idle ∧ t.modDone = s.modDone)

/-- R213, R215, R205 to R207: the waveform of a Type A reply. After the ticks of FRAME_DELAY_WAIT,
BIT_GRID_ALIGN and the start bit, data bit `i` is sent as the half-bit pair (b, not b) with b the bit BUF
holds, least significant first, and each complete byte `k` is followed by its parity pair: PAR[k] with own
parity, the odd parity of the byte without. -/
def Obligations.ReplyWaveformTypeA : Prop :=
  ∀ s : State, s.params.valid → s.proto = .typeA → s.lm.state = .frameDelayWait → s.lm.txPos = 0 →
    s.lm.txAcc = true → 1 ≤ s.lm.txBits.toNat → s.lm.txBits.toNat ≤ s.bitcap →
    (∀ i < s.lm.txBits.toNat,
      ∃ t u, modTicks (4 + 2 * i + 2 * (i / 8) + 1) s = .next t ∧
        modTicks (4 + 2 * i + 2 * (i / 8) + 2) s = .next u ∧
        t.out.loadmod = (s.readBuf (i / 8)).getLsbD (i % 8) ∧
        u.out.loadmod = !(s.readBuf (i / 8)).getLsbD (i % 8)) ∧
    (∀ k < s.lm.txBits.toNat / 8,
      ∃ t u pb, modTicks (4 + 18 * k + 17) s = .next t ∧ modTicks (4 + 18 * k + 18) s = .next u ∧
        (s.lm.txOwnPar = true → pb = s.readPar k) ∧
        (s.lm.txOwnPar = false →
          pb = (List.range 8).foldl (fun acc j => acc ^^ (s.readBuf k).getLsbD j) true) ∧
        t.out.loadmod = pb ∧ u.out.loadmod = !pb)

/-! ### The host port -/

/-- R243: CTL_ARM_REPLY. The checks in their order, each refusal changing nothing; accepted, it consumes the
frame, resets the serialiser, sets the subcarrier and lets the FDT compare tick. -/
def Obligations.ArmReply : Prop :=
  ∀ (o : Bool) (n : Half) (s : State),
    (s.enabled = false → exec (.ctlArmReply o n) s = .next (s.recorded .notEnabled (encode (.ctlArmReply o n)))) ∧
    (s.enabled = true → (n.toNat = 0 ∨ s.bitcap < n.toNat) →
      exec (.ctlArmReply o n) s = .next (s.recorded .badReplyCount (encode (.ctlArmReply o n)))) ∧
    (s.enabled = true → 1 ≤ n.toNat → n.toNat ≤ s.bitcap →
      (s.dm.state ≠ .frameComplete ∨ s.lm.state ≠ .idle ∨ s.mt.en = false) →
      exec (.ctlArmReply o n) s = .next (s.recorded .armNotReady (encode (.ctlArmReply o n)))) ∧
    (s.enabled = true → 1 ≤ n.toNat → n.toNat ≤ s.bitcap →
      s.dm.state = .frameComplete → s.lm.state = .idle → s.mt.en = true →
      exec (.ctlArmReply o n) s = .next { s with
        demodDone := false, result := 0
        lm := { state := .frameDelayWait, txBits := n, txPos := 0, txCur := false, txAcc := true
                txOwnPar := o }
        out := { loadmod := false, scDiv := s.params.scDiv, scCnt := 0, scLvl := false
                 scMode := match s.proto with | .typeA => s.params.scModeA | .typeF => s.params.scModeF }
        mt := { s.mt with modIe := true } })

/-- R245: CTL_CLEAR_FLAGS clears the selected flags and nothing else, enabled or not. -/
def Obligations.ClearFlags : Prop :=
  ∀ (d m : Bool) (s : State),
    exec (.ctlClearFlags d m) s = .next { s with
      demodDone := if d then false else s.demodDone, modDone := if m then false else s.modDone, result := 0 }

/-- R246, R36: CTL_READ_STATUS returns the STATUS word, field by field, and has no side effect. The codes of its
fields are those of R86 (DEMOD_STATE, LM_STATE), R28 (ERR_CAUSE) and R27 (SC_MODE); an LM_STATE out of range reads
as its own code, 12 to 15 (log entry 22). -/
def Obligations.StatusWordFields : Prop :=
  ∀ s : State, ∃ w : Word, exec .ctlReadStatus s = .next { s with result := w } ∧
    w.getLsbD 0 = s.demodDone ∧ w.getLsbD 1 = s.modDone ∧
    (w.extractLsb' 2 2).toNat = (match s.dm.errCause with
      | .none => 0 | .garbage => 1 | .overflow => 2) ∧
    (w.extractLsb' 4 2).toNat = (match s.dm.state with
      | .awaitingFieldEdge => 0 | .samplingDataBit => 1 | .samplingParityBit => 2 | .frameComplete => 3) ∧
    (w.extractLsb' 6 4).toNat = (match s.lm.state with
      | .idle => 0 | .frameDelayWait => 1 | .bitGridAlign => 2 | .startBit0 => 3 | .startBit1 => 4
      | .dataBit0 => 5 | .dataBit1 => 6 | .parityBit0 => 7 | .parityBit1 => 8 | .stopBit0 => 9
      | .stopBit1 => 10 | .finished => 11 | .outOfRange low => 12 + low.toNat) ∧
    w.getLsbD 10 = s.enabled ∧ w.getLsbD 11 = decide (s.proto = .typeF) ∧ w.getLsbD 12 = s.out.loadmod ∧
    (w.extractLsb' 13 2).toNat = (match s.out.scMode with | .off => 0 | .ook => 1 | .direct => 2) ∧
    w.getLsbD 15 = false ∧
    w.extractLsb' 16 16 = s.dm.bitCount ∧ w.extractLsb' 32 16 = s.dm.parCount ∧
    w.extractLsb' 48 16 = s.lm.txPos

/-- R247, R248, R249, R250: an accepted buffer access. A read returns the entry and changes nothing else; a write
is read back, and every other entry of both memories and every register keep their values. -/
def Obligations.BufferAccess : Prop :=
  ∀ (i : Half) (d : Byte) (v : Bool) (s : State), i.toNat < s.params.cap → ¬ s.sampling → ¬ s.replying →
    exec (.bufRead i) s = .next { s with result := (s.readBuf i.toNat).zeroExtend 64 } ∧
    exec (.parRead i) s = .next { s with result := if s.readPar i.toNat then 1 else 0 } ∧
    (∃ t, exec (.bufWrite i d) s = .next t ∧ t.readBuf i.toNat = d ∧
      (∀ j, j ≠ i.toNat → t.readBuf j = s.readBuf j) ∧ { t with buf := s.buf } = { s with result := 0 }) ∧
    (∃ t, exec (.parWrite i v) s = .next t ∧ t.readPar i.toNat = v ∧
      (∀ j, j ≠ i.toNat → t.readPar j = s.readPar j) ∧ { t with par := s.par } = { s with result := 0 })

/-- R63, R64: an index ≥ CAP is ADDRESS_RANGE, checked first; an access while the block owns the buffers is
OWNERSHIP. Neither has any effect. -/
def Obligations.BufferAccessRefused : Prop :=
  ∀ (i : Instr) (k : Half) (d : Byte) (v : Bool) (s : State),
    (i = .bufRead k ∨ i = .bufWrite k d ∨ i = .parRead k ∨ i = .parWrite k v) →
    (s.params.cap ≤ k.toNat → exec i s = .next (s.recorded .addressRange (encode i))) ∧
    (k.toNat < s.params.cap → (s.sampling ∨ s.replying) →
      exec i s = .next (s.recorded .ownership (encode i)))

/-- R240: whatever a HOST word is, either it records no fault, or it records exactly one, returns 0 and changes
nothing else. -/
def Obligations.RefusedHostWordChangesNothing : Prop :=
  ∀ (w : Word) (s : State),
    (hostWord w s).faults = s.faults ∨ ∃ r, hostWord w s = s.recorded r w

/-- R64, R72: no host word changes an entry of BUF or PAR while the block owns them. -/
def Obligations.BlockOwnedBuffersAreSafeFromHost : Prop :=
  ∀ (w : Word) (s : State), (s.sampling ∨ s.replying) →
    (hostWord w s).buf = s.buf ∧ (hostWord w s).par = s.par

/-- R68: a flag a handler sets in a cycle survives a host clear in the same cycle, so a completion is never
lost. -/
def Obligations.ClearNeverLosesCompletion : Prop :=
  ∀ (pin d m : Bool) (s t u : State), s.demodDone = false → s.modDone = false →
    exec (.evClk pin) { s with hop := none } = .next t →
    exec (.evClk pin) { s with hop := some (encode (.ctlClearFlags d m)) } = .next u →
    u.demodDone = t.demodDone ∧ u.modDone = t.modDone

/-- R251: what the Controller does after reading STATUS, in terms of the registers: a frame with an error or
fewer than 7 bits is discarded by a restart and never forwarded, DEMOD_DONE is looked at before MOD_DONE; and
what follows the oracle's answer and a refused arm. A turn of the TASK is one step with its next word in a cycle of
its own, and the oracle's answer is an input (R252). The turns, and a turn with no host word while the oracle works,
are log entry 20; an answer nobody asked for stops the run by log entry 18; the event level is log entry 17. -/
def Obligations.TaskContract : Prop :=
  (∀ s : State,
    (s.demodDone = true → (s.dm.errCause ≠ .none ∨ s.dm.bitCount.toNat < 7) →
      afterStatus s.status = .restartDue) ∧
    (s.demodDone = true → s.dm.errCause = .none → 7 ≤ s.dm.bitCount.toNat →
      afterStatus s.status = .awaitingAp s.dm.bitCount) ∧
    (s.demodDone = false → s.modDone = true → afterStatus s.status = .restartDue) ∧
    (s.demodDone = false → s.modDone = false → afterStatus s.status = .idle)) ∧
  (∀ (n : Half) (o : Bool) (w : Word),
    taskWord .idle = some .ctlReadStatus ∧ taskWord .restartDue = some .ctlRestartDemod ∧
    taskWord (.awaitingAp n) = none ∧ taskWord (.replyDue n o) = some (.ctlArmReply o n) ∧
    (∀ refused, taskAfter .idle refused w = afterStatus w ∧ taskAfter .restartDue refused w = .idle) ∧
    afterAnswer .noResponse = .restartDue ∧ afterAnswer (.reply n o) = .replyDue n o ∧
    taskAfter (.replyDue n o) true w = .restartDue ∧ taskAfter (.replyDue n o) false w = .idle) ∧
  (∀ (pin : Bool) (rest : List Stimulus) (s : State), s.inputs = .task pin :: rest →
    (∀ i, taskWord s.task = some i → s.view = .cycleLevel →
      step s = andThen (andThen (exec i { s with inputs := rest, sig := .clear, hop := none }) (blockPhases pin))
        fun t => .next { t with
          task := taskAfter s.task (decide (s.faults.length < t.faults.length)) t.result }) ∧
    (∀ i, taskWord s.task = some i → s.view = .eventLevel →
      step s = andThen (exec i { s with inputs := rest }) fun t => .next { t with
        sig := .clear
        task := taskAfter s.task (decide (s.faults.length < t.faults.length)) t.result }) ∧
    (taskWord s.task = none → s.view = .cycleLevel →
      step s = blockPhases pin { s with inputs := rest, sig := .clear, hop := none }) ∧
    (taskWord s.task = none → s.view = .eventLevel → step s = .next { s with inputs := rest })) ∧
  (∀ (r : ApResponse) (rest : List Stimulus) (s : State), s.inputs = .answer r :: rest →
    (∀ n, s.task = .awaitingAp n → step s = .next { s with inputs := rest, task := afterAnswer r }) ∧
    ((∀ n, s.task ≠ .awaitingAp n) → step s = .refused .unaskedAnswer))

/-! ### The cycle and the step -/

/-- A step runs the decoded instruction. A word on the port of its class is exactly `exec` of what it decodes to:
a harness word and a replayed word as it stands; a host word in phase 1 of a cycle, whose other phases then
run (R101), or alone at the event level (log entry 17). A host word given alone is in a cycle with the pin held
(log entry 21). R84 takes an INTERNAL word on no port: that one reaches the machine as a word of a replayed trace,
and runs by itself outside any phase, is log entry 15. The turns of the TASK are in TaskContract. -/
def Obligations.StepRunsDecodedInstruction : Prop :=
  ∀ (w : Word) (i : Instr) (rest : List Stimulus) (s : State), decode w = .ok i →
    (s.inputs = .harness w :: rest → i.opClass = .event →
      (s.view = .eventLevel ∨ i = .evClk true ∨ i = .evClk false) →
      step s = exec i { s with inputs := rest }) ∧
    (s.inputs = .replay w :: rest → i.opClass = .internal → step s = exec i { s with inputs := rest }) ∧
    (s.inputs = .host w :: rest → i.opClass = .host → s.view = .eventLevel →
      step s = andThen (exec i { s with inputs := rest }) fun t => .next { t with sig := .clear }) ∧
    (s.inputs = .host w :: rest → i.opClass = .host → s.view = .cycleLevel →
      step s = andThen (exec i { s with inputs := rest, sig := .clear, hop := none }) (blockPhases s.sense)) ∧
    (∀ pin, s.inputs = .cycle pin (some w) :: rest → i.opClass = .host →
      step s = andThen (exec i { s with inputs := rest, sig := .clear, hop := none }) (blockPhases pin)) ∧
    (∀ pin, s.inputs = .cycle pin none :: rest →
      step s = blockPhases pin { s with inputs := rest, sig := .clear, hop := none })

/-- R102: in every cycle that runs, whatever else it does, SYNC2 takes SYNC1's value and SYNC1 the pin's, and the
cycle number goes up by one (R33). -/
def Obligations.SynchroniserAlwaysShifts : Prop :=
  ∀ (pin : Bool) (s t : State), exec (.evClk pin) s = .next t →
    t.sync2 = s.sync1 ∧ t.sync1 = pin ∧ t.sense = pin ∧ t.cycle = s.cycle + 1 ∧ t.params = s.params ∧
    t.inputs = s.inputs ∧ t.view = s.view ∧ t.task = s.task

/-- R100's example with R23, R294: in the OFF state a cycle with no host word moves the synchroniser (and the
cycle number) and changes nothing else. -/
def Obligations.OffStateOnlyShifts : Prop :=
  ∀ (pin : Bool) (s : State), s.enabled = false → s.offIsPor → s.betweenCycles →
    exec (.evClk pin) s = .next { s with
      sense := pin, sync1 := pin, sync2 := s.sync1, cycle := s.cycle + 1 }

/-- R294, R23, R241, R242 (decision D39 of spec/92_eei_decisions.md): only LC_INIT enables the block, and PROTO
changes only by LC_INIT and LC_DEINIT, whatever instruction runs. -/
def Obligations.OnlyInitWakes : Prop :=
  ∀ (i : Instr) (s t : State), exec i s = .next t →
    (s.enabled = false → t.enabled = true →
      ∃ p, i = .lcInit p ∨ ∃ pin, i = .evClk pin ∧ s.hop = some (encode (.lcInit p))) ∧
    (t.proto ≠ s.proto →
      ∃ j, (j = .lcDeinit ∨ ∃ p, j = .lcInit p) ∧
        (i = j ∨ ∃ pin, i = .evClk pin ∧ s.hop = some (encode j)))

/-- R284 (with R101, R103, R105): an edge and a compare in one cycle while a frame is received. The edge's restart
comes first: ST_CNT is 0 and a buffered period is loaded before the compare is tested, so a sample (LOW, a
pause) is taken in that cycle only when the compare value in force after the restart is 0. The capture sees the
count of the same cycle. -/
def Obligations.EdgeRestartPrecedesCompare : Prop :=
  ∀ (pin : Bool) (cc : Half) (s : State), s.enabled = true → s.betweenCycles → s.sampling →
    s.st.en = true → s.st.restartEn = true → s.st.sampleIe = true → s.edgeIe = false → s.mt.modIe = false →
    s.sync2 = true → s.sync1 = false → cc = (if s.st.bufV = true then s.st.ccBuf else s.st.cc) →
    (cc ≠ 0 →
      ∃ t, exec (.evClk pin) s = .next t ∧ t.dm = s.dm ∧ t.st.cnt = 0 ∧ t.st.cc = cc ∧ t.st.bufV = false ∧
        t.mt.cap = (if s.mt.en = true ∧ s.mt.mode = .measure ∧ s.mt.capEn = true then s.mt.cnt + 1
          else s.mt.cap)) ∧
    (cc = 0 → (s.dm.ssrLen + 1).toNat ≠ s.spb → 0 < s.nIdle.toNat →
      ∃ t, exec (.evClk pin) s = .next t ∧
        t.dm = { s.dm with ssr := s.dm.ssr <<< 1 ||| 1, ssrLen := s.dm.ssrLen + 1, idleCnt := 0 } ∧
        t.st.cnt = 0 ∧ t.st.cc = 0 ∧ t.st.bufV = false)

/-- R101: a cycle in which no handler runs (no host word, no edge, both tick enables off) only counts: ST_CNT
and MT_CNT as R104 and R106 say, the subcarrier as R107 says, the synchroniser and the cycle number; a buffered
period is loaded at the wrap (R105). Every other register, BUF, PAR and FAULTS keep their values. A period or a
divider of 0, which no rule writes, wraps at once by log entry 11. -/
def Obligations.QuietCycleOnlyCounts : Prop :=
  ∀ (pin : Bool) (s : State), s.enabled = true → s.betweenCycles → s.st.sampleIe = false →
    s.mt.modIe = false → (s.sync2 = false ∨ s.sync1 = true) →
    ∃ t, exec (.evClk pin) s = .next t ∧
      t = { s with st := t.st, mt := { s.mt with cnt := t.mt.cnt }
                   out := s.subcarrierStepped.out
                   sense := pin, sync1 := pin, sync2 := s.sync1, cycle := s.cycle + 1 } ∧
      t.st = (if s.st.en = false then s.st
        else if s.st.cnt.toNat + 1 < s.st.per.toNat then { s.st with cnt := s.st.cnt + 1 }
        else if s.st.bufV = true then
          { s.st with cnt := 0, per := s.st.perBuf, cc := s.st.ccBuf, bufV := false }
        else { s.st with cnt := 0 }) ∧
      t.mt.cnt = (if s.mt.en = false then s.mt.cnt
        else if s.mt.mode = .periodic ∧ s.mt.per.toNat ≤ s.mt.cnt.toNat + 1 then 0
        else s.mt.cnt + 1)

/-- R285: FAULTS is sticky: no step, of any input, removes a record or changes one. -/
def Obligations.FaultRecordsAreSticky : Prop :=
  ∀ s t : State, step s = .next t → s.faults <+: t.faults

/-- R124: the Type A sampling grid. After a first edge in cycle e, whatever the pin does as long as no other edge
is detected (SYNC2 does not fall again) up to cycle e + T_BIT + CC_SLOT, no sample is taken before that cycle, and in
it the level of the pin in the cycle before (R102) is sampled. -/
def Obligations.FirstSampleOfTheGrid : Prop :=
  ∀ (pins : List Bool) (s : State), s.Inv → s.enabled = true → s.proto = .typeA →
    s.dm.state = .samplingDataBit →
    s.dm.ssrLen = 0 → s.dm.idleCnt = 0 →
    s.st.cnt = 0 → s.st.per = s.params.tBit → s.st.cc = 0xFFFF → s.st.bufV = true →
    s.st.perBuf.toNat = s.params.tBit.toNat / 2 → s.st.ccBuf = s.params.ccSlot → s.sync2 = false →
    pins.length = s.params.tBit.toNat + s.params.ccSlot.toNat →
    (s.sync1 :: pins.dropLast).Pairwise (fun a b => a = true → b = true) →
    (∀ k < pins.length, ∃ t, cyclesWith (pins.take k) s = .next t ∧ t.dm = s.dm) ∧
    (∃ t v, cyclesWith pins s = .next t ∧ pins.dropLast.getLast? = some v ∧
      t.dm = { s.dm with
        ssr := s.dm.ssr <<< 1 ||| (if v then 0 else 1), ssrLen := 1, idleCnt := if v then 1 else 0 })

/-- The invariant, (I1) to (I8) of R35 with what makes them inductive, holds after power-on for every legal
parameter set, and `State.reset` has one. -/
def Obligations.InvariantAtReset : Prop :=
  (∀ p : Params, p.valid → (State.por p).Inv) ∧ State.reset.Inv

/-- In every state of the invariant, EV_CLK completes, with any pin level and any word or none on the host port,
and the invariant holds after it: no handler ever forms an index outside BUF or PAR (R63). -/
def Obligations.CycleCompletesAndKeepsInvariant : Prop :=
  ∀ (pin : Bool) (hop : Option Word) (s : State), s.Inv →
    ∃ t, exec (.evClk pin) { s with hop := hop } = .next t ∧ t.Inv

/-- The invariant is inductive: every step that takes no word of a replayed trace keeps it, and no such step
stops with a fault. -/
def Obligations.StepKeepsInvariant : Prop :=
  ∀ s : State, s.Inv → s.noReplay →
    (∀ t, step s = .next t → t.Inv ∧ t.noReplay) ∧ (∀ r, step s ≠ .fault r)

/-- R35: (I1) to (I8) hold in every state reached from power-on, for every legal parameter set, every input
sequence the ports can bring, and any number of steps. The event-level view beside the cycle level is log entry 17,
and the words of a replayed trace, which no port brings, are left out by log entry 15. -/
def Obligations.RuleInvariantsInEveryReachedState : Prop :=
  ∀ (p : Params) (view : View) (inputs : List Stimulus) (k : Nat) (t : State), p.valid →
    (∀ x ∈ inputs, Stimulus.notReplay x = true) →
    steps k { State.por p with view := view, inputs := inputs } = .next t → t.ruleInvariants

/-- R108 with R211, R244: the antenna presents a load only while a reply is in flight, in every state of the
invariant, and then the receiver is off. -/
def Obligations.LoadOnlyDuringReply : Prop :=
  ∀ s : State, s.Inv → s.ant = true →
    s.replying ∧ s.enabled = true ∧ s.dm.state = .frameComplete ∧ s.demodDone = false ∧ s.edgeIe = false ∧
    s.st.en = false
end

