-- ==== Sys2Proof/Laws/Decode.lean ====
section
/-! SUPPORT. The fields of a packed word, and the operand forms (spec/30_encoding.md R80, R83). -/

namespace Sys2Proof

section fields
variable (o f : BitVec 8) (a b : Half)

@[simp] theorem fieldOpc_packWord : fieldOpc (packWord o f a b) = o := by
  ext i hi
  simp [fieldOpc, packWord]
  grind

@[simp] theorem fieldF_packWord : fieldF (packWord o f a b) = f := by
  ext i hi
  simp [fieldF, packWord]
  grind

@[simp] theorem fieldA_packWord : fieldA (packWord o f a b) = a := by
  ext i hi
  simp [fieldA, packWord]
  grind

@[simp] theorem fieldB_packWord : fieldB (packWord o f a b) = b := by
  ext i hi
  simp [fieldB, packWord]
  grind

@[simp] theorem fieldR_packWord : fieldR (packWord o f a b) = 0 := by
  ext i hi
  simp [fieldR, packWord]
  grind

end fields

/-- A word whose reserved bits are 0 is its four fields packed. -/
theorem packWord_fields {w : Word} (h : fieldR w = 0) :
    packWord (fieldOpc w) (fieldF w) (fieldA w) (fieldB w) = w := by
  ext i hi
  have h' := congrArg (fun x => x.getLsbD i) h
  simp [fieldR] at h'
  simp [fieldOpc, fieldF, fieldA, fieldB, packWord]
  grind

/-- When a row's unused bits let a packed word through. -/
theorem ifUnusedZero_packWord (o f : BitVec 8) (a b : Half) (usedF : BitVec 8) (usedA usedB : Half)
    (i : Instr) :
    ifUnusedZero (packWord o f a b) usedF usedA usedB i =
      if (f &&& ~~~usedF) = 0 ∧ (a &&& ~~~usedA) = 0 ∧ (b &&& ~~~usedB) = 0 then .ok i
      else .error .reservedNonzero := by
  simp [ifUnusedZero, and_assoc]

/-- What a row that lets a word through says of the word. -/
theorem ifUnusedZero_ok {w : Word} {usedF : BitVec 8} {usedA usedB : Half} {i j : Instr}
    (h : ifUnusedZero w usedF usedA usedB i = .ok j) :
    j = i ∧ (fieldF w &&& ~~~usedF) = 0 ∧ (fieldA w &&& ~~~usedA) = 0 ∧ (fieldB w &&& ~~~usedB) = 0 ∧
      fieldR w = 0 := by
  unfold ifUnusedZero at h
  split at h
  · rename_i hc
    simp only [Bool.and_eq_true, beq_iff_eq] at hc
    cases h
    exact ⟨rfl, hc.1.1.1, hc.1.1.2, hc.1.2, hc.2⟩
  · cases h

/-- An operand that fills its field leaves no unused bit. -/
theorem half_and_not_full (a : Half) : a &&& ~~~(0xFFFF : Half) = 0 := by
  ext i hi; simp

namespace Machine

/-- The checks of a replayed word are the well-formedness of its instruction, operand form by operand form
(R83). -/
theorem periodOk_eq (p : Half) : periodOk p = legalPeriod p := rfl

theorem offsetOk_eq (p o : Half) : offsetOk p o = legalOffset p o := rfl

theorem modArmOk_eq (m : TimerMode) (p : Half) : modArmOk m p = (Instr.tsArmModulation m p).wellFormed := by
  cases m <;> rfl

theorem scModeOfCode_none_iff (m : BitVec 2) : scModeOfCode m = none ↔ m = 3 := by
  revert m; decide

end Machine

end Sys2Proof
end

