-- ==== Sys2Proof/Laws/Memory.lean ====
section
/-! SUPPORT. The two memories: a read after a write, the canonical form, and that every memory operation keeps it
(spec/10_state.md R12, spec/20_memory.md R60). -/

namespace Sys2Proof.Machine

theorem Memory.lookup_write_self {α : Type} (m : Memory α) (i : Nat) (v : α) :
    (m.write i v).lookup i = some v := by
  induction m with
  | nil => simp [Memory.write, Memory.lookup]
  | cons c m ih =>
    obtain ⟨k, w⟩ := c
    simp only [Memory.write]
    split
    · simp [Memory.lookup]
    · split <;> simp [Memory.lookup, *]

theorem Memory.lookup_write_ne {α : Type} (m : Memory α) {i j : Nat} (v : α) (h : j ≠ i) :
    (m.write i v).lookup j = m.lookup j := by
  induction m with
  | nil => simp [Memory.write, Memory.lookup, h]
  | cons c m ih =>
    obtain ⟨k, w⟩ := c
    simp only [Memory.write]
    split
    · simp [Memory.lookup, h]
    · split
      · subst_vars; simp [Memory.lookup, h]
      · simp [Memory.lookup, ih]

/-- A write lists the index written and the indices listed before, and no other. -/
theorem Memory.mem_write {α : Type} {m : Memory α} {i : Nat} {v : α} {c : Nat × α} (h : c ∈ m.write i v) :
    c = (i, v) ∨ c ∈ m := by
  induction m with
  | nil => simpa [Memory.write] using h
  | cons d m ih =>
    obtain ⟨k, w⟩ := d
    simp only [Memory.write] at h
    split at h
    · simpa using h
    · split at h
      · simp only [List.mem_cons] at h ⊢; tauto
      · simp only [List.mem_cons] at h ⊢
        rcases h with h | h
        · exact .inr (.inl h)
        · rcases ih h with h | h <;> tauto

/-- A write keeps the canonical form. -/
theorem Memory.wf_write {α : Type} {m : Memory α} (h : Memory.wf m) (i : Nat) (v : α) :
    Memory.wf (m.write i v) := by
  induction m with
  | nil => simp [Memory.wf, Memory.write]
  | cons c m ih =>
    obtain ⟨k, w⟩ := c
    simp only [Memory.wf, List.map_cons, List.pairwise_cons] at h ih ⊢
    simp only [Memory.write]
    split
    · rename_i hk
      simp only [List.map_cons, List.pairwise_cons, List.mem_cons]
      refine ⟨?_, h⟩
      rintro a (rfl | ha)
      · exact hk
      · exact lt_trans hk (h.1 a ha)
    · split
      · rename_i hk
        subst hk
        simpa using h
      · rename_i h1 h2
        simp only [List.map_cons, List.pairwise_cons]
        refine ⟨?_, ih h.2⟩
        intro a ha
        obtain ⟨c, hc, rfl⟩ := List.mem_map.1 ha
        rcases Memory.mem_write hc with rfl | hc
        · show k < i; omega
        · exact h.1 _ (List.mem_map_of_mem hc)

/-- A write to an entry that exists lists only entries that exist. -/
theorem Memory.below_write {α : Type} {m : Memory α} {cap i : Nat} (h : Memory.below m cap) (hi : i < cap)
    (v : α) : Memory.below (m.write i v) cap := by
  intro c hc
  rcases Memory.mem_write hc with rfl | hc
  · exact hi
  · exact h c hc

/-- The memories after power-on are in the canonical form. -/
theorem por_memory_wf (p : Params) : Memory.wf (State.por p).buf ∧ Memory.wf (State.por p).par := by
  simp [State.por, Memory.wf]

theorem reset_memory_wf : Memory.wf State.reset.buf ∧ Memory.wf State.reset.par :=
  por_memory_wf Config.resetParams

@[simp] theorem State.readBuf_writeBuf_self (s : State) (i : Nat) (v : Byte) :
    (s.writeBuf i v).readBuf i = v := by
  simp [State.readBuf, State.writeBuf, Memory.lookup_write_self]

theorem State.readBuf_writeBuf_ne (s : State) {i j : Nat} (v : Byte) (h : j ≠ i) :
    (s.writeBuf i v).readBuf j = s.readBuf j := by
  simp [State.readBuf, State.writeBuf, Memory.lookup_write_ne _ _ h]

@[simp] theorem State.readPar_writePar_self (s : State) (i : Nat) (v : Bool) :
    (s.writePar i v).readPar i = v := by
  simp [State.readPar, State.writePar, Memory.lookup_write_self]

theorem State.readPar_writePar_ne (s : State) {i j : Nat} (v : Bool) (h : j ≠ i) :
    (s.writePar i v).readPar j = s.readPar j := by
  simp [State.readPar, State.writePar, Memory.lookup_write_ne _ _ h]

@[simp] theorem State.readPar_writeBuf (s : State) (i j : Nat) (v : Byte) :
    (s.writeBuf i v).readPar j = s.readPar j := rfl

@[simp] theorem State.readBuf_writePar (s : State) (i j : Nat) (v : Bool) :
    (s.writePar i v).readBuf j = s.readBuf j := rfl

/-- A read depends on the memory alone. -/
theorem State.readBuf_congr {s t : State} (h : s.buf = t.buf) (i : Nat) : s.readBuf i = t.readBuf i := by
  simp [State.readBuf, h]

theorem State.readPar_congr {s t : State} (h : s.par = t.par) (i : Nat) : s.readPar i = t.readPar i := by
  simp [State.readPar, h]

end Sys2Proof.Machine
end

