-- ==== Sys2Proof/Laws/State.lean ====
section
/-! SUPPORT. One lemma for each field of each plain record update of the model, true by unfolding, so that no later
proof unfolds one. The updates that depend on a condition have a frame equation each in Laws/Ops.lean. -/

namespace Sys2Proof.Machine

section writeBuf
variable (i : Nat) (v : Byte) (s : State)
@[simp] theorem writeBuf_enabled : (s.writeBuf i v).enabled = s.enabled := rfl
@[simp] theorem writeBuf_proto : (s.writeBuf i v).proto = s.proto := rfl
@[simp] theorem writeBuf_sense : (s.writeBuf i v).sense = s.sense := rfl
@[simp] theorem writeBuf_sync1 : (s.writeBuf i v).sync1 = s.sync1 := rfl
@[simp] theorem writeBuf_sync2 : (s.writeBuf i v).sync2 = s.sync2 := rfl
@[simp] theorem writeBuf_st : (s.writeBuf i v).st = s.st := rfl
@[simp] theorem writeBuf_mt : (s.writeBuf i v).mt = s.mt := rfl
@[simp] theorem writeBuf_edgeIe : (s.writeBuf i v).edgeIe = s.edgeIe := rfl
@[simp] theorem writeBuf_out : (s.writeBuf i v).out = s.out := rfl
@[simp] theorem writeBuf_dm : (s.writeBuf i v).dm = s.dm := rfl
@[simp] theorem writeBuf_lm : (s.writeBuf i v).lm = s.lm := rfl
@[simp] theorem writeBuf_demodDone : (s.writeBuf i v).demodDone = s.demodDone := rfl
@[simp] theorem writeBuf_modDone : (s.writeBuf i v).modDone = s.modDone := rfl
@[simp] theorem writeBuf_buf : (s.writeBuf i v).buf = s.buf.write i v := rfl
@[simp] theorem writeBuf_par : (s.writeBuf i v).par = s.par := rfl
@[simp] theorem writeBuf_faults : (s.writeBuf i v).faults = s.faults := rfl
@[simp] theorem writeBuf_cycle : (s.writeBuf i v).cycle = s.cycle := rfl
@[simp] theorem writeBuf_params : (s.writeBuf i v).params = s.params := rfl
@[simp] theorem writeBuf_sig : (s.writeBuf i v).sig = s.sig := rfl
@[simp] theorem writeBuf_hop : (s.writeBuf i v).hop = s.hop := rfl
@[simp] theorem writeBuf_result : (s.writeBuf i v).result = s.result := rfl
@[simp] theorem writeBuf_view : (s.writeBuf i v).view = s.view := rfl
@[simp] theorem writeBuf_task : (s.writeBuf i v).task = s.task := rfl
@[simp] theorem writeBuf_inputs : (s.writeBuf i v).inputs = s.inputs := rfl
end writeBuf

section writePar
variable (i : Nat) (v : Bool) (s : State)
@[simp] theorem writePar_enabled : (s.writePar i v).enabled = s.enabled := rfl
@[simp] theorem writePar_proto : (s.writePar i v).proto = s.proto := rfl
@[simp] theorem writePar_sense : (s.writePar i v).sense = s.sense := rfl
@[simp] theorem writePar_sync1 : (s.writePar i v).sync1 = s.sync1 := rfl
@[simp] theorem writePar_sync2 : (s.writePar i v).sync2 = s.sync2 := rfl
@[simp] theorem writePar_st : (s.writePar i v).st = s.st := rfl
@[simp] theorem writePar_mt : (s.writePar i v).mt = s.mt := rfl
@[simp] theorem writePar_edgeIe : (s.writePar i v).edgeIe = s.edgeIe := rfl
@[simp] theorem writePar_out : (s.writePar i v).out = s.out := rfl
@[simp] theorem writePar_dm : (s.writePar i v).dm = s.dm := rfl
@[simp] theorem writePar_lm : (s.writePar i v).lm = s.lm := rfl
@[simp] theorem writePar_demodDone : (s.writePar i v).demodDone = s.demodDone := rfl
@[simp] theorem writePar_modDone : (s.writePar i v).modDone = s.modDone := rfl
@[simp] theorem writePar_buf : (s.writePar i v).buf = s.buf := rfl
@[simp] theorem writePar_par : (s.writePar i v).par = s.par.write i v := rfl
@[simp] theorem writePar_faults : (s.writePar i v).faults = s.faults := rfl
@[simp] theorem writePar_cycle : (s.writePar i v).cycle = s.cycle := rfl
@[simp] theorem writePar_params : (s.writePar i v).params = s.params := rfl
@[simp] theorem writePar_sig : (s.writePar i v).sig = s.sig := rfl
@[simp] theorem writePar_hop : (s.writePar i v).hop = s.hop := rfl
@[simp] theorem writePar_result : (s.writePar i v).result = s.result := rfl
@[simp] theorem writePar_view : (s.writePar i v).view = s.view := rfl
@[simp] theorem writePar_task : (s.writePar i v).task = s.task := rfl
@[simp] theorem writePar_inputs : (s.writePar i v).inputs = s.inputs := rfl
end writePar

section clearFlags
variable (d m : Bool) (s : State)
@[simp] theorem clearFlags_enabled : (s.clearFlags d m).enabled = s.enabled := rfl
@[simp] theorem clearFlags_proto : (s.clearFlags d m).proto = s.proto := rfl
@[simp] theorem clearFlags_sense : (s.clearFlags d m).sense = s.sense := rfl
@[simp] theorem clearFlags_sync1 : (s.clearFlags d m).sync1 = s.sync1 := rfl
@[simp] theorem clearFlags_sync2 : (s.clearFlags d m).sync2 = s.sync2 := rfl
@[simp] theorem clearFlags_st : (s.clearFlags d m).st = s.st := rfl
@[simp] theorem clearFlags_mt : (s.clearFlags d m).mt = s.mt := rfl
@[simp] theorem clearFlags_edgeIe : (s.clearFlags d m).edgeIe = s.edgeIe := rfl
@[simp] theorem clearFlags_out : (s.clearFlags d m).out = s.out := rfl
@[simp] theorem clearFlags_dm : (s.clearFlags d m).dm = s.dm := rfl
@[simp] theorem clearFlags_lm : (s.clearFlags d m).lm = s.lm := rfl
@[simp] theorem clearFlags_demodDone : (s.clearFlags d m).demodDone = (s.demodDone && !d) := rfl
@[simp] theorem clearFlags_modDone : (s.clearFlags d m).modDone = (s.modDone && !m) := rfl
@[simp] theorem clearFlags_buf : (s.clearFlags d m).buf = s.buf := rfl
@[simp] theorem clearFlags_par : (s.clearFlags d m).par = s.par := rfl
@[simp] theorem clearFlags_faults : (s.clearFlags d m).faults = s.faults := rfl
@[simp] theorem clearFlags_cycle : (s.clearFlags d m).cycle = s.cycle := rfl
@[simp] theorem clearFlags_params : (s.clearFlags d m).params = s.params := rfl
@[simp] theorem clearFlags_sig : (s.clearFlags d m).sig = s.sig := rfl
@[simp] theorem clearFlags_hop : (s.clearFlags d m).hop = s.hop := rfl
@[simp] theorem clearFlags_result : (s.clearFlags d m).result = s.result := rfl
@[simp] theorem clearFlags_view : (s.clearFlags d m).view = s.view := rfl
@[simp] theorem clearFlags_task : (s.clearFlags d m).task = s.task := rfl
@[simp] theorem clearFlags_inputs : (s.clearFlags d m).inputs = s.inputs := rfl
end clearFlags

section raiseFault
variable (r : FaultReason) (w : Word) (s : State)
@[simp] theorem raiseFault_enabled : (raiseFault r w s).enabled = s.enabled := rfl
@[simp] theorem raiseFault_proto : (raiseFault r w s).proto = s.proto := rfl
@[simp] theorem raiseFault_sense : (raiseFault r w s).sense = s.sense := rfl
@[simp] theorem raiseFault_sync1 : (raiseFault r w s).sync1 = s.sync1 := rfl
@[simp] theorem raiseFault_sync2 : (raiseFault r w s).sync2 = s.sync2 := rfl
@[simp] theorem raiseFault_st : (raiseFault r w s).st = s.st := rfl
@[simp] theorem raiseFault_mt : (raiseFault r w s).mt = s.mt := rfl
@[simp] theorem raiseFault_edgeIe : (raiseFault r w s).edgeIe = s.edgeIe := rfl
@[simp] theorem raiseFault_out : (raiseFault r w s).out = s.out := rfl
@[simp] theorem raiseFault_dm : (raiseFault r w s).dm = s.dm := rfl
@[simp] theorem raiseFault_lm : (raiseFault r w s).lm = s.lm := rfl
@[simp] theorem raiseFault_demodDone : (raiseFault r w s).demodDone = s.demodDone := rfl
@[simp] theorem raiseFault_modDone : (raiseFault r w s).modDone = s.modDone := rfl
@[simp] theorem raiseFault_buf : (raiseFault r w s).buf = s.buf := rfl
@[simp] theorem raiseFault_par : (raiseFault r w s).par = s.par := rfl
@[simp] theorem raiseFault_faults :
    (raiseFault r w s).faults = s.faults ++ [{ reason := r, cycle := s.cycle, word := w }] := rfl
@[simp] theorem raiseFault_cycle : (raiseFault r w s).cycle = s.cycle := rfl
@[simp] theorem raiseFault_params : (raiseFault r w s).params = s.params := rfl
@[simp] theorem raiseFault_sig : (raiseFault r w s).sig = s.sig := rfl
@[simp] theorem raiseFault_hop : (raiseFault r w s).hop = s.hop := rfl
@[simp] theorem raiseFault_result : (raiseFault r w s).result = 0 := rfl
@[simp] theorem raiseFault_view : (raiseFault r w s).view = s.view := rfl
@[simp] theorem raiseFault_task : (raiseFault r w s).task = s.task := rfl
@[simp] theorem raiseFault_inputs : (raiseFault r w s).inputs = s.inputs := rfl
end raiseFault

section accepted
variable (s : State)
@[simp] theorem accepted_enabled : (accepted s).enabled = s.enabled := rfl
@[simp] theorem accepted_proto : (accepted s).proto = s.proto := rfl
@[simp] theorem accepted_sense : (accepted s).sense = s.sense := rfl
@[simp] theorem accepted_sync1 : (accepted s).sync1 = s.sync1 := rfl
@[simp] theorem accepted_sync2 : (accepted s).sync2 = s.sync2 := rfl
@[simp] theorem accepted_st : (accepted s).st = s.st := rfl
@[simp] theorem accepted_mt : (accepted s).mt = s.mt := rfl
@[simp] theorem accepted_edgeIe : (accepted s).edgeIe = s.edgeIe := rfl
@[simp] theorem accepted_out : (accepted s).out = s.out := rfl
@[simp] theorem accepted_dm : (accepted s).dm = s.dm := rfl
@[simp] theorem accepted_lm : (accepted s).lm = s.lm := rfl
@[simp] theorem accepted_demodDone : (accepted s).demodDone = s.demodDone := rfl
@[simp] theorem accepted_modDone : (accepted s).modDone = s.modDone := rfl
@[simp] theorem accepted_buf : (accepted s).buf = s.buf := rfl
@[simp] theorem accepted_par : (accepted s).par = s.par := rfl
@[simp] theorem accepted_faults : (accepted s).faults = s.faults := rfl
@[simp] theorem accepted_cycle : (accepted s).cycle = s.cycle := rfl
@[simp] theorem accepted_params : (accepted s).params = s.params := rfl
@[simp] theorem accepted_sig : (accepted s).sig = s.sig := rfl
@[simp] theorem accepted_hop : (accepted s).hop = s.hop := rfl
@[simp] theorem accepted_result : (accepted s).result = 0 := rfl
@[simp] theorem accepted_view : (accepted s).view = s.view := rfl
@[simp] theorem accepted_task : (accepted s).task = s.task := rfl
@[simp] theorem accepted_inputs : (accepted s).inputs = s.inputs := rfl
end accepted

section clearSignals
variable (s : State)
@[simp] theorem clearSignals_enabled : (clearSignals s).enabled = s.enabled := rfl
@[simp] theorem clearSignals_proto : (clearSignals s).proto = s.proto := rfl
@[simp] theorem clearSignals_sense : (clearSignals s).sense = s.sense := rfl
@[simp] theorem clearSignals_sync1 : (clearSignals s).sync1 = s.sync1 := rfl
@[simp] theorem clearSignals_sync2 : (clearSignals s).sync2 = s.sync2 := rfl
@[simp] theorem clearSignals_st : (clearSignals s).st = s.st := rfl
@[simp] theorem clearSignals_mt : (clearSignals s).mt = s.mt := rfl
@[simp] theorem clearSignals_edgeIe : (clearSignals s).edgeIe = s.edgeIe := rfl
@[simp] theorem clearSignals_out : (clearSignals s).out = s.out := rfl
@[simp] theorem clearSignals_dm : (clearSignals s).dm = s.dm := rfl
@[simp] theorem clearSignals_lm : (clearSignals s).lm = s.lm := rfl
@[simp] theorem clearSignals_demodDone : (clearSignals s).demodDone = s.demodDone := rfl
@[simp] theorem clearSignals_modDone : (clearSignals s).modDone = s.modDone := rfl
@[simp] theorem clearSignals_buf : (clearSignals s).buf = s.buf := rfl
@[simp] theorem clearSignals_par : (clearSignals s).par = s.par := rfl
@[simp] theorem clearSignals_faults : (clearSignals s).faults = s.faults := rfl
@[simp] theorem clearSignals_cycle : (clearSignals s).cycle = s.cycle := rfl
@[simp] theorem clearSignals_params : (clearSignals s).params = s.params := rfl
@[simp] theorem clearSignals_sig : (clearSignals s).sig = .clear := rfl
@[simp] theorem clearSignals_hop : (clearSignals s).hop = s.hop := rfl
@[simp] theorem clearSignals_result : (clearSignals s).result = s.result := rfl
@[simp] theorem clearSignals_view : (clearSignals s).view = s.view := rfl
@[simp] theorem clearSignals_task : (clearSignals s).task = s.task := rfl
@[simp] theorem clearSignals_inputs : (clearSignals s).inputs = s.inputs := rfl
end clearSignals

section armSampling
variable (p : Half) (s : State)
@[simp] theorem armSampling_enabled : (armSampling p s).enabled = s.enabled := rfl
@[simp] theorem armSampling_proto : (armSampling p s).proto = s.proto := rfl
@[simp] theorem armSampling_sense : (armSampling p s).sense = s.sense := rfl
@[simp] theorem armSampling_sync1 : (armSampling p s).sync1 = s.sync1 := rfl
@[simp] theorem armSampling_sync2 : (armSampling p s).sync2 = s.sync2 := rfl
@[simp] theorem armSampling_st :
    (armSampling p s).st = { s.st with en := true, cnt := 0, per := p, cc := noMatch, bufV := false, restartEn := true } := rfl
@[simp] theorem armSampling_mt : (armSampling p s).mt = s.mt := rfl
@[simp] theorem armSampling_edgeIe : (armSampling p s).edgeIe = s.edgeIe := rfl
@[simp] theorem armSampling_out : (armSampling p s).out = s.out := rfl
@[simp] theorem armSampling_dm : (armSampling p s).dm = s.dm := rfl
@[simp] theorem armSampling_lm : (armSampling p s).lm = s.lm := rfl
@[simp] theorem armSampling_demodDone : (armSampling p s).demodDone = s.demodDone := rfl
@[simp] theorem armSampling_modDone : (armSampling p s).modDone = s.modDone := rfl
@[simp] theorem armSampling_buf : (armSampling p s).buf = s.buf := rfl
@[simp] theorem armSampling_par : (armSampling p s).par = s.par := rfl
@[simp] theorem armSampling_faults : (armSampling p s).faults = s.faults := rfl
@[simp] theorem armSampling_cycle : (armSampling p s).cycle = s.cycle := rfl
@[simp] theorem armSampling_params : (armSampling p s).params = s.params := rfl
@[simp] theorem armSampling_sig : (armSampling p s).sig = s.sig := rfl
@[simp] theorem armSampling_hop : (armSampling p s).hop = s.hop := rfl
@[simp] theorem armSampling_result : (armSampling p s).result = s.result := rfl
@[simp] theorem armSampling_view : (armSampling p s).view = s.view := rfl
@[simp] theorem armSampling_task : (armSampling p s).task = s.task := rfl
@[simp] theorem armSampling_inputs : (armSampling p s).inputs = s.inputs := rfl
end armSampling

section scheduleNextSample
variable (p o : Half) (s : State)
@[simp] theorem scheduleNextSample_enabled : (scheduleNextSample p o s).enabled = s.enabled := rfl
@[simp] theorem scheduleNextSample_proto : (scheduleNextSample p o s).proto = s.proto := rfl
@[simp] theorem scheduleNextSample_sense : (scheduleNextSample p o s).sense = s.sense := rfl
@[simp] theorem scheduleNextSample_sync1 : (scheduleNextSample p o s).sync1 = s.sync1 := rfl
@[simp] theorem scheduleNextSample_sync2 : (scheduleNextSample p o s).sync2 = s.sync2 := rfl
@[simp] theorem scheduleNextSample_st :
    (scheduleNextSample p o s).st = { s.st with perBuf := p, ccBuf := o, bufV := true } := rfl
@[simp] theorem scheduleNextSample_mt : (scheduleNextSample p o s).mt = s.mt := rfl
@[simp] theorem scheduleNextSample_edgeIe : (scheduleNextSample p o s).edgeIe = s.edgeIe := rfl
@[simp] theorem scheduleNextSample_out : (scheduleNextSample p o s).out = s.out := rfl
@[simp] theorem scheduleNextSample_dm : (scheduleNextSample p o s).dm = s.dm := rfl
@[simp] theorem scheduleNextSample_lm : (scheduleNextSample p o s).lm = s.lm := rfl
@[simp] theorem scheduleNextSample_demodDone : (scheduleNextSample p o s).demodDone = s.demodDone := rfl
@[simp] theorem scheduleNextSample_modDone : (scheduleNextSample p o s).modDone = s.modDone := rfl
@[simp] theorem scheduleNextSample_buf : (scheduleNextSample p o s).buf = s.buf := rfl
@[simp] theorem scheduleNextSample_par : (scheduleNextSample p o s).par = s.par := rfl
@[simp] theorem scheduleNextSample_faults : (scheduleNextSample p o s).faults = s.faults := rfl
@[simp] theorem scheduleNextSample_cycle : (scheduleNextSample p o s).cycle = s.cycle := rfl
@[simp] theorem scheduleNextSample_params : (scheduleNextSample p o s).params = s.params := rfl
@[simp] theorem scheduleNextSample_sig : (scheduleNextSample p o s).sig = s.sig := rfl
@[simp] theorem scheduleNextSample_hop : (scheduleNextSample p o s).hop = s.hop := rfl
@[simp] theorem scheduleNextSample_result : (scheduleNextSample p o s).result = s.result := rfl
@[simp] theorem scheduleNextSample_view : (scheduleNextSample p o s).view = s.view := rfl
@[simp] theorem scheduleNextSample_task : (scheduleNextSample p o s).task = s.task := rfl
@[simp] theorem scheduleNextSample_inputs : (scheduleNextSample p o s).inputs = s.inputs := rfl
end scheduleNextSample

section disarmSampling
variable (s : State)
@[simp] theorem disarmSampling_enabled : (disarmSampling s).enabled = s.enabled := rfl
@[simp] theorem disarmSampling_proto : (disarmSampling s).proto = s.proto := rfl
@[simp] theorem disarmSampling_sense : (disarmSampling s).sense = s.sense := rfl
@[simp] theorem disarmSampling_sync1 : (disarmSampling s).sync1 = s.sync1 := rfl
@[simp] theorem disarmSampling_sync2 : (disarmSampling s).sync2 = s.sync2 := rfl
@[simp] theorem disarmSampling_st :
    (disarmSampling s).st = { s.st with en := false, restartEn := false, sampleIe := false, bufV := false, cnt := 0 } := rfl
@[simp] theorem disarmSampling_mt : (disarmSampling s).mt = s.mt := rfl
@[simp] theorem disarmSampling_edgeIe : (disarmSampling s).edgeIe = s.edgeIe := rfl
@[simp] theorem disarmSampling_out : (disarmSampling s).out = s.out := rfl
@[simp] theorem disarmSampling_dm : (disarmSampling s).dm = s.dm := rfl
@[simp] theorem disarmSampling_lm : (disarmSampling s).lm = s.lm := rfl
@[simp] theorem disarmSampling_demodDone : (disarmSampling s).demodDone = s.demodDone := rfl
@[simp] theorem disarmSampling_modDone : (disarmSampling s).modDone = s.modDone := rfl
@[simp] theorem disarmSampling_buf : (disarmSampling s).buf = s.buf := rfl
@[simp] theorem disarmSampling_par : (disarmSampling s).par = s.par := rfl
@[simp] theorem disarmSampling_faults : (disarmSampling s).faults = s.faults := rfl
@[simp] theorem disarmSampling_cycle : (disarmSampling s).cycle = s.cycle := rfl
@[simp] theorem disarmSampling_params : (disarmSampling s).params = s.params := rfl
@[simp] theorem disarmSampling_sig : (disarmSampling s).sig = s.sig := rfl
@[simp] theorem disarmSampling_hop : (disarmSampling s).hop = s.hop := rfl
@[simp] theorem disarmSampling_result : (disarmSampling s).result = s.result := rfl
@[simp] theorem disarmSampling_view : (disarmSampling s).view = s.view := rfl
@[simp] theorem disarmSampling_task : (disarmSampling s).task = s.task := rfl
@[simp] theorem disarmSampling_inputs : (disarmSampling s).inputs = s.inputs := rfl
end disarmSampling

section disarmModulation
variable (s : State)
@[simp] theorem disarmModulation_enabled : (disarmModulation s).enabled = s.enabled := rfl
@[simp] theorem disarmModulation_proto : (disarmModulation s).proto = s.proto := rfl
@[simp] theorem disarmModulation_sense : (disarmModulation s).sense = s.sense := rfl
@[simp] theorem disarmModulation_sync1 : (disarmModulation s).sync1 = s.sync1 := rfl
@[simp] theorem disarmModulation_sync2 : (disarmModulation s).sync2 = s.sync2 := rfl
@[simp] theorem disarmModulation_st : (disarmModulation s).st = s.st := rfl
@[simp] theorem disarmModulation_mt :
    (disarmModulation s).mt = { s.mt with en := false, modIe := false, capEn := false, cnt := 0, mode := .measure } := rfl
@[simp] theorem disarmModulation_edgeIe : (disarmModulation s).edgeIe = s.edgeIe := rfl
@[simp] theorem disarmModulation_out : (disarmModulation s).out = s.out := rfl
@[simp] theorem disarmModulation_dm : (disarmModulation s).dm = s.dm := rfl
@[simp] theorem disarmModulation_lm : (disarmModulation s).lm = s.lm := rfl
@[simp] theorem disarmModulation_demodDone : (disarmModulation s).demodDone = s.demodDone := rfl
@[simp] theorem disarmModulation_modDone : (disarmModulation s).modDone = s.modDone := rfl
@[simp] theorem disarmModulation_buf : (disarmModulation s).buf = s.buf := rfl
@[simp] theorem disarmModulation_par : (disarmModulation s).par = s.par := rfl
@[simp] theorem disarmModulation_faults : (disarmModulation s).faults = s.faults := rfl
@[simp] theorem disarmModulation_cycle : (disarmModulation s).cycle = s.cycle := rfl
@[simp] theorem disarmModulation_params : (disarmModulation s).params = s.params := rfl
@[simp] theorem disarmModulation_sig : (disarmModulation s).sig = s.sig := rfl
@[simp] theorem disarmModulation_hop : (disarmModulation s).hop = s.hop := rfl
@[simp] theorem disarmModulation_result : (disarmModulation s).result = s.result := rfl
@[simp] theorem disarmModulation_view : (disarmModulation s).view = s.view := rfl
@[simp] theorem disarmModulation_task : (disarmModulation s).task = s.task := rfl
@[simp] theorem disarmModulation_inputs : (disarmModulation s).inputs = s.inputs := rfl
end disarmModulation

section lockFdt
variable (b : Bool) (s : State)
@[simp] theorem lockFdt_enabled : (lockFdt b s).enabled = s.enabled := rfl
@[simp] theorem lockFdt_proto : (lockFdt b s).proto = s.proto := rfl
@[simp] theorem lockFdt_sense : (lockFdt b s).sense = s.sense := rfl
@[simp] theorem lockFdt_sync1 : (lockFdt b s).sync1 = s.sync1 := rfl
@[simp] theorem lockFdt_sync2 : (lockFdt b s).sync2 = s.sync2 := rfl
@[simp] theorem lockFdt_st : (lockFdt b s).st = s.st := rfl
@[simp] theorem lockFdt_mt : (lockFdt b s).mt = { s.mt with cmp := s.mt.cap + s.fdtClks b, capEn := false } := rfl
@[simp] theorem lockFdt_edgeIe : (lockFdt b s).edgeIe = s.edgeIe := rfl
@[simp] theorem lockFdt_out : (lockFdt b s).out = s.out := rfl
@[simp] theorem lockFdt_dm : (lockFdt b s).dm = s.dm := rfl
@[simp] theorem lockFdt_lm : (lockFdt b s).lm = s.lm := rfl
@[simp] theorem lockFdt_demodDone : (lockFdt b s).demodDone = s.demodDone := rfl
@[simp] theorem lockFdt_modDone : (lockFdt b s).modDone = s.modDone := rfl
@[simp] theorem lockFdt_buf : (lockFdt b s).buf = s.buf := rfl
@[simp] theorem lockFdt_par : (lockFdt b s).par = s.par := rfl
@[simp] theorem lockFdt_faults : (lockFdt b s).faults = s.faults := rfl
@[simp] theorem lockFdt_cycle : (lockFdt b s).cycle = s.cycle := rfl
@[simp] theorem lockFdt_params : (lockFdt b s).params = s.params := rfl
@[simp] theorem lockFdt_sig : (lockFdt b s).sig = s.sig := rfl
@[simp] theorem lockFdt_hop : (lockFdt b s).hop = s.hop := rfl
@[simp] theorem lockFdt_result : (lockFdt b s).result = s.result := rfl
@[simp] theorem lockFdt_view : (lockFdt b s).view = s.view := rfl
@[simp] theorem lockFdt_task : (lockFdt b s).task = s.task := rfl
@[simp] theorem lockFdt_inputs : (lockFdt b s).inputs = s.inputs := rfl
end lockFdt

section setSubcarrier
variable (m : ScMode) (d : Half) (s : State)
@[simp] theorem setSubcarrier_enabled : (setSubcarrier m d s).enabled = s.enabled := rfl
@[simp] theorem setSubcarrier_proto : (setSubcarrier m d s).proto = s.proto := rfl
@[simp] theorem setSubcarrier_sense : (setSubcarrier m d s).sense = s.sense := rfl
@[simp] theorem setSubcarrier_sync1 : (setSubcarrier m d s).sync1 = s.sync1 := rfl
@[simp] theorem setSubcarrier_sync2 : (setSubcarrier m d s).sync2 = s.sync2 := rfl
@[simp] theorem setSubcarrier_st : (setSubcarrier m d s).st = s.st := rfl
@[simp] theorem setSubcarrier_mt : (setSubcarrier m d s).mt = s.mt := rfl
@[simp] theorem setSubcarrier_edgeIe : (setSubcarrier m d s).edgeIe = s.edgeIe := rfl
@[simp] theorem setSubcarrier_out :
    (setSubcarrier m d s).out = { s.out with scMode := m, scDiv := d, scCnt := 0, scLvl := false } := rfl
@[simp] theorem setSubcarrier_dm : (setSubcarrier m d s).dm = s.dm := rfl
@[simp] theorem setSubcarrier_lm : (setSubcarrier m d s).lm = s.lm := rfl
@[simp] theorem setSubcarrier_demodDone : (setSubcarrier m d s).demodDone = s.demodDone := rfl
@[simp] theorem setSubcarrier_modDone : (setSubcarrier m d s).modDone = s.modDone := rfl
@[simp] theorem setSubcarrier_buf : (setSubcarrier m d s).buf = s.buf := rfl
@[simp] theorem setSubcarrier_par : (setSubcarrier m d s).par = s.par := rfl
@[simp] theorem setSubcarrier_faults : (setSubcarrier m d s).faults = s.faults := rfl
@[simp] theorem setSubcarrier_cycle : (setSubcarrier m d s).cycle = s.cycle := rfl
@[simp] theorem setSubcarrier_params : (setSubcarrier m d s).params = s.params := rfl
@[simp] theorem setSubcarrier_sig : (setSubcarrier m d s).sig = s.sig := rfl
@[simp] theorem setSubcarrier_hop : (setSubcarrier m d s).hop = s.hop := rfl
@[simp] theorem setSubcarrier_result : (setSubcarrier m d s).result = s.result := rfl
@[simp] theorem setSubcarrier_view : (setSubcarrier m d s).view = s.view := rfl
@[simp] theorem setSubcarrier_task : (setSubcarrier m d s).task = s.task := rfl
@[simp] theorem setSubcarrier_inputs : (setSubcarrier m d s).inputs = s.inputs := rfl
end setSubcarrier

section setLoadmod
variable (b : Bool) (s : State)
@[simp] theorem setLoadmod_enabled : (setLoadmod b s).enabled = s.enabled := rfl
@[simp] theorem setLoadmod_proto : (setLoadmod b s).proto = s.proto := rfl
@[simp] theorem setLoadmod_sense : (setLoadmod b s).sense = s.sense := rfl
@[simp] theorem setLoadmod_sync1 : (setLoadmod b s).sync1 = s.sync1 := rfl
@[simp] theorem setLoadmod_sync2 : (setLoadmod b s).sync2 = s.sync2 := rfl
@[simp] theorem setLoadmod_st : (setLoadmod b s).st = s.st := rfl
@[simp] theorem setLoadmod_mt : (setLoadmod b s).mt = s.mt := rfl
@[simp] theorem setLoadmod_edgeIe : (setLoadmod b s).edgeIe = s.edgeIe := rfl
@[simp] theorem setLoadmod_out : (setLoadmod b s).out = { s.out with loadmod := b } := rfl
@[simp] theorem setLoadmod_dm : (setLoadmod b s).dm = s.dm := rfl
@[simp] theorem setLoadmod_lm : (setLoadmod b s).lm = s.lm := rfl
@[simp] theorem setLoadmod_demodDone : (setLoadmod b s).demodDone = s.demodDone := rfl
@[simp] theorem setLoadmod_modDone : (setLoadmod b s).modDone = s.modDone := rfl
@[simp] theorem setLoadmod_buf : (setLoadmod b s).buf = s.buf := rfl
@[simp] theorem setLoadmod_par : (setLoadmod b s).par = s.par := rfl
@[simp] theorem setLoadmod_faults : (setLoadmod b s).faults = s.faults := rfl
@[simp] theorem setLoadmod_cycle : (setLoadmod b s).cycle = s.cycle := rfl
@[simp] theorem setLoadmod_params : (setLoadmod b s).params = s.params := rfl
@[simp] theorem setLoadmod_sig : (setLoadmod b s).sig = s.sig := rfl
@[simp] theorem setLoadmod_hop : (setLoadmod b s).hop = s.hop := rfl
@[simp] theorem setLoadmod_result : (setLoadmod b s).result = s.result := rfl
@[simp] theorem setLoadmod_view : (setLoadmod b s).view = s.view := rfl
@[simp] theorem setLoadmod_task : (setLoadmod b s).task = s.task := rfl
@[simp] theorem setLoadmod_inputs : (setLoadmod b s).inputs = s.inputs := rfl
end setLoadmod

section setEdgeIrq
variable (b : Bool) (s : State)
@[simp] theorem setEdgeIrq_enabled : (setEdgeIrq b s).enabled = s.enabled := rfl
@[simp] theorem setEdgeIrq_proto : (setEdgeIrq b s).proto = s.proto := rfl
@[simp] theorem setEdgeIrq_sense : (setEdgeIrq b s).sense = s.sense := rfl
@[simp] theorem setEdgeIrq_sync1 : (setEdgeIrq b s).sync1 = s.sync1 := rfl
@[simp] theorem setEdgeIrq_sync2 : (setEdgeIrq b s).sync2 = s.sync2 := rfl
@[simp] theorem setEdgeIrq_st : (setEdgeIrq b s).st = s.st := rfl
@[simp] theorem setEdgeIrq_mt : (setEdgeIrq b s).mt = s.mt := rfl
@[simp] theorem setEdgeIrq_edgeIe : (setEdgeIrq b s).edgeIe = b := rfl
@[simp] theorem setEdgeIrq_out : (setEdgeIrq b s).out = s.out := rfl
@[simp] theorem setEdgeIrq_dm : (setEdgeIrq b s).dm = s.dm := rfl
@[simp] theorem setEdgeIrq_lm : (setEdgeIrq b s).lm = s.lm := rfl
@[simp] theorem setEdgeIrq_demodDone : (setEdgeIrq b s).demodDone = s.demodDone := rfl
@[simp] theorem setEdgeIrq_modDone : (setEdgeIrq b s).modDone = s.modDone := rfl
@[simp] theorem setEdgeIrq_buf : (setEdgeIrq b s).buf = s.buf := rfl
@[simp] theorem setEdgeIrq_par : (setEdgeIrq b s).par = s.par := rfl
@[simp] theorem setEdgeIrq_faults : (setEdgeIrq b s).faults = s.faults := rfl
@[simp] theorem setEdgeIrq_cycle : (setEdgeIrq b s).cycle = s.cycle := rfl
@[simp] theorem setEdgeIrq_params : (setEdgeIrq b s).params = s.params := rfl
@[simp] theorem setEdgeIrq_sig : (setEdgeIrq b s).sig = s.sig := rfl
@[simp] theorem setEdgeIrq_hop : (setEdgeIrq b s).hop = s.hop := rfl
@[simp] theorem setEdgeIrq_result : (setEdgeIrq b s).result = s.result := rfl
@[simp] theorem setEdgeIrq_view : (setEdgeIrq b s).view = s.view := rfl
@[simp] theorem setEdgeIrq_task : (setEdgeIrq b s).task = s.task := rfl
@[simp] theorem setEdgeIrq_inputs : (setEdgeIrq b s).inputs = s.inputs := rfl
end setEdgeIrq

section setSampleIrq
variable (b : Bool) (s : State)
@[simp] theorem setSampleIrq_enabled : (setSampleIrq b s).enabled = s.enabled := rfl
@[simp] theorem setSampleIrq_proto : (setSampleIrq b s).proto = s.proto := rfl
@[simp] theorem setSampleIrq_sense : (setSampleIrq b s).sense = s.sense := rfl
@[simp] theorem setSampleIrq_sync1 : (setSampleIrq b s).sync1 = s.sync1 := rfl
@[simp] theorem setSampleIrq_sync2 : (setSampleIrq b s).sync2 = s.sync2 := rfl
@[simp] theorem setSampleIrq_st : (setSampleIrq b s).st = { s.st with sampleIe := b } := rfl
@[simp] theorem setSampleIrq_mt : (setSampleIrq b s).mt = s.mt := rfl
@[simp] theorem setSampleIrq_edgeIe : (setSampleIrq b s).edgeIe = s.edgeIe := rfl
@[simp] theorem setSampleIrq_out : (setSampleIrq b s).out = s.out := rfl
@[simp] theorem setSampleIrq_dm : (setSampleIrq b s).dm = s.dm := rfl
@[simp] theorem setSampleIrq_lm : (setSampleIrq b s).lm = s.lm := rfl
@[simp] theorem setSampleIrq_demodDone : (setSampleIrq b s).demodDone = s.demodDone := rfl
@[simp] theorem setSampleIrq_modDone : (setSampleIrq b s).modDone = s.modDone := rfl
@[simp] theorem setSampleIrq_buf : (setSampleIrq b s).buf = s.buf := rfl
@[simp] theorem setSampleIrq_par : (setSampleIrq b s).par = s.par := rfl
@[simp] theorem setSampleIrq_faults : (setSampleIrq b s).faults = s.faults := rfl
@[simp] theorem setSampleIrq_cycle : (setSampleIrq b s).cycle = s.cycle := rfl
@[simp] theorem setSampleIrq_params : (setSampleIrq b s).params = s.params := rfl
@[simp] theorem setSampleIrq_sig : (setSampleIrq b s).sig = s.sig := rfl
@[simp] theorem setSampleIrq_hop : (setSampleIrq b s).hop = s.hop := rfl
@[simp] theorem setSampleIrq_result : (setSampleIrq b s).result = s.result := rfl
@[simp] theorem setSampleIrq_view : (setSampleIrq b s).view = s.view := rfl
@[simp] theorem setSampleIrq_task : (setSampleIrq b s).task = s.task := rfl
@[simp] theorem setSampleIrq_inputs : (setSampleIrq b s).inputs = s.inputs := rfl
end setSampleIrq

section setModIrq
variable (b : Bool) (s : State)
@[simp] theorem setModIrq_enabled : (setModIrq b s).enabled = s.enabled := rfl
@[simp] theorem setModIrq_proto : (setModIrq b s).proto = s.proto := rfl
@[simp] theorem setModIrq_sense : (setModIrq b s).sense = s.sense := rfl
@[simp] theorem setModIrq_sync1 : (setModIrq b s).sync1 = s.sync1 := rfl
@[simp] theorem setModIrq_sync2 : (setModIrq b s).sync2 = s.sync2 := rfl
@[simp] theorem setModIrq_st : (setModIrq b s).st = s.st := rfl
@[simp] theorem setModIrq_mt : (setModIrq b s).mt = { s.mt with modIe := b } := rfl
@[simp] theorem setModIrq_edgeIe : (setModIrq b s).edgeIe = s.edgeIe := rfl
@[simp] theorem setModIrq_out : (setModIrq b s).out = s.out := rfl
@[simp] theorem setModIrq_dm : (setModIrq b s).dm = s.dm := rfl
@[simp] theorem setModIrq_lm : (setModIrq b s).lm = s.lm := rfl
@[simp] theorem setModIrq_demodDone : (setModIrq b s).demodDone = s.demodDone := rfl
@[simp] theorem setModIrq_modDone : (setModIrq b s).modDone = s.modDone := rfl
@[simp] theorem setModIrq_buf : (setModIrq b s).buf = s.buf := rfl
@[simp] theorem setModIrq_par : (setModIrq b s).par = s.par := rfl
@[simp] theorem setModIrq_faults : (setModIrq b s).faults = s.faults := rfl
@[simp] theorem setModIrq_cycle : (setModIrq b s).cycle = s.cycle := rfl
@[simp] theorem setModIrq_params : (setModIrq b s).params = s.params := rfl
@[simp] theorem setModIrq_sig : (setModIrq b s).sig = s.sig := rfl
@[simp] theorem setModIrq_hop : (setModIrq b s).hop = s.hop := rfl
@[simp] theorem setModIrq_result : (setModIrq b s).result = s.result := rfl
@[simp] theorem setModIrq_view : (setModIrq b s).view = s.view := rfl
@[simp] theorem setModIrq_task : (setModIrq b s).task = s.task := rfl
@[simp] theorem setModIrq_inputs : (setModIrq b s).inputs = s.inputs := rfl
end setModIrq

section setLmState
variable (l : LmState) (s : State)
@[simp] theorem setLmState_enabled : (setLmState l s).enabled = s.enabled := rfl
@[simp] theorem setLmState_proto : (setLmState l s).proto = s.proto := rfl
@[simp] theorem setLmState_sense : (setLmState l s).sense = s.sense := rfl
@[simp] theorem setLmState_sync1 : (setLmState l s).sync1 = s.sync1 := rfl
@[simp] theorem setLmState_sync2 : (setLmState l s).sync2 = s.sync2 := rfl
@[simp] theorem setLmState_st : (setLmState l s).st = s.st := rfl
@[simp] theorem setLmState_mt : (setLmState l s).mt = s.mt := rfl
@[simp] theorem setLmState_edgeIe : (setLmState l s).edgeIe = s.edgeIe := rfl
@[simp] theorem setLmState_out : (setLmState l s).out = s.out := rfl
@[simp] theorem setLmState_dm : (setLmState l s).dm = s.dm := rfl
@[simp] theorem setLmState_lm : (setLmState l s).lm = { s.lm with state := l } := rfl
@[simp] theorem setLmState_demodDone : (setLmState l s).demodDone = s.demodDone := rfl
@[simp] theorem setLmState_modDone : (setLmState l s).modDone = s.modDone := rfl
@[simp] theorem setLmState_buf : (setLmState l s).buf = s.buf := rfl
@[simp] theorem setLmState_par : (setLmState l s).par = s.par := rfl
@[simp] theorem setLmState_faults : (setLmState l s).faults = s.faults := rfl
@[simp] theorem setLmState_cycle : (setLmState l s).cycle = s.cycle := rfl
@[simp] theorem setLmState_params : (setLmState l s).params = s.params := rfl
@[simp] theorem setLmState_sig : (setLmState l s).sig = s.sig := rfl
@[simp] theorem setLmState_hop : (setLmState l s).hop = s.hop := rfl
@[simp] theorem setLmState_result : (setLmState l s).result = s.result := rfl
@[simp] theorem setLmState_view : (setLmState l s).view = s.view := rfl
@[simp] theorem setLmState_task : (setLmState l s).task = s.task := rfl
@[simp] theorem setLmState_inputs : (setLmState l s).inputs = s.inputs := rfl
end setLmState

section clearWindow
variable (s : State)
@[simp] theorem clearWindow_enabled : (clearWindow s).enabled = s.enabled := rfl
@[simp] theorem clearWindow_proto : (clearWindow s).proto = s.proto := rfl
@[simp] theorem clearWindow_sense : (clearWindow s).sense = s.sense := rfl
@[simp] theorem clearWindow_sync1 : (clearWindow s).sync1 = s.sync1 := rfl
@[simp] theorem clearWindow_sync2 : (clearWindow s).sync2 = s.sync2 := rfl
@[simp] theorem clearWindow_st : (clearWindow s).st = s.st := rfl
@[simp] theorem clearWindow_mt : (clearWindow s).mt = s.mt := rfl
@[simp] theorem clearWindow_edgeIe : (clearWindow s).edgeIe = s.edgeIe := rfl
@[simp] theorem clearWindow_out : (clearWindow s).out = s.out := rfl
@[simp] theorem clearWindow_dm : (clearWindow s).dm = { s.dm with ssr := 0, ssrLen := 0 } := rfl
@[simp] theorem clearWindow_lm : (clearWindow s).lm = s.lm := rfl
@[simp] theorem clearWindow_demodDone : (clearWindow s).demodDone = s.demodDone := rfl
@[simp] theorem clearWindow_modDone : (clearWindow s).modDone = s.modDone := rfl
@[simp] theorem clearWindow_buf : (clearWindow s).buf = s.buf := rfl
@[simp] theorem clearWindow_par : (clearWindow s).par = s.par := rfl
@[simp] theorem clearWindow_faults : (clearWindow s).faults = s.faults := rfl
@[simp] theorem clearWindow_cycle : (clearWindow s).cycle = s.cycle := rfl
@[simp] theorem clearWindow_params : (clearWindow s).params = s.params := rfl
@[simp] theorem clearWindow_sig : (clearWindow s).sig = s.sig := rfl
@[simp] theorem clearWindow_hop : (clearWindow s).hop = s.hop := rfl
@[simp] theorem clearWindow_result : (clearWindow s).result = s.result := rfl
@[simp] theorem clearWindow_view : (clearWindow s).view = s.view := rfl
@[simp] theorem clearWindow_task : (clearWindow s).task = s.task := rfl
@[simp] theorem clearWindow_inputs : (clearWindow s).inputs = s.inputs := rfl
end clearWindow

section forgetBit
variable (s : State)
@[simp] theorem forgetBit_enabled : (forgetBit s).enabled = s.enabled := rfl
@[simp] theorem forgetBit_proto : (forgetBit s).proto = s.proto := rfl
@[simp] theorem forgetBit_sense : (forgetBit s).sense = s.sense := rfl
@[simp] theorem forgetBit_sync1 : (forgetBit s).sync1 = s.sync1 := rfl
@[simp] theorem forgetBit_sync2 : (forgetBit s).sync2 = s.sync2 := rfl
@[simp] theorem forgetBit_st : (forgetBit s).st = s.st := rfl
@[simp] theorem forgetBit_mt : (forgetBit s).mt = s.mt := rfl
@[simp] theorem forgetBit_edgeIe : (forgetBit s).edgeIe = s.edgeIe := rfl
@[simp] theorem forgetBit_out : (forgetBit s).out = s.out := rfl
@[simp] theorem forgetBit_dm : (forgetBit s).dm = { s.dm with lastBit := s.dm.prevBit, lastKind := .none } := rfl
@[simp] theorem forgetBit_lm : (forgetBit s).lm = s.lm := rfl
@[simp] theorem forgetBit_demodDone : (forgetBit s).demodDone = s.demodDone := rfl
@[simp] theorem forgetBit_modDone : (forgetBit s).modDone = s.modDone := rfl
@[simp] theorem forgetBit_buf : (forgetBit s).buf = s.buf := rfl
@[simp] theorem forgetBit_par : (forgetBit s).par = s.par := rfl
@[simp] theorem forgetBit_faults : (forgetBit s).faults = s.faults := rfl
@[simp] theorem forgetBit_cycle : (forgetBit s).cycle = s.cycle := rfl
@[simp] theorem forgetBit_params : (forgetBit s).params = s.params := rfl
@[simp] theorem forgetBit_sig : (forgetBit s).sig = s.sig := rfl
@[simp] theorem forgetBit_hop : (forgetBit s).hop = s.hop := rfl
@[simp] theorem forgetBit_result : (forgetBit s).result = s.result := rfl
@[simp] theorem forgetBit_view : (forgetBit s).view = s.view := rfl
@[simp] theorem forgetBit_task : (forgetBit s).task = s.task := rfl
@[simp] theorem forgetBit_inputs : (forgetBit s).inputs = s.inputs := rfl
end forgetBit

section shiftSync
variable (pin : Bool) (s : State)
@[simp] theorem shiftSync_enabled : (shiftSync pin s).enabled = s.enabled := rfl
@[simp] theorem shiftSync_proto : (shiftSync pin s).proto = s.proto := rfl
@[simp] theorem shiftSync_sense : (shiftSync pin s).sense = pin := rfl
@[simp] theorem shiftSync_sync1 : (shiftSync pin s).sync1 = pin := rfl
@[simp] theorem shiftSync_sync2 : (shiftSync pin s).sync2 = s.sync1 := rfl
@[simp] theorem shiftSync_st : (shiftSync pin s).st = s.st := rfl
@[simp] theorem shiftSync_mt : (shiftSync pin s).mt = s.mt := rfl
@[simp] theorem shiftSync_edgeIe : (shiftSync pin s).edgeIe = s.edgeIe := rfl
@[simp] theorem shiftSync_out : (shiftSync pin s).out = s.out := rfl
@[simp] theorem shiftSync_dm : (shiftSync pin s).dm = s.dm := rfl
@[simp] theorem shiftSync_lm : (shiftSync pin s).lm = s.lm := rfl
@[simp] theorem shiftSync_demodDone : (shiftSync pin s).demodDone = s.demodDone := rfl
@[simp] theorem shiftSync_modDone : (shiftSync pin s).modDone = s.modDone := rfl
@[simp] theorem shiftSync_buf : (shiftSync pin s).buf = s.buf := rfl
@[simp] theorem shiftSync_par : (shiftSync pin s).par = s.par := rfl
@[simp] theorem shiftSync_faults : (shiftSync pin s).faults = s.faults := rfl
@[simp] theorem shiftSync_cycle : (shiftSync pin s).cycle = s.cycle := rfl
@[simp] theorem shiftSync_params : (shiftSync pin s).params = s.params := rfl
@[simp] theorem shiftSync_sig : (shiftSync pin s).sig = s.sig := rfl
@[simp] theorem shiftSync_hop : (shiftSync pin s).hop = s.hop := rfl
@[simp] theorem shiftSync_result : (shiftSync pin s).result = s.result := rfl
@[simp] theorem shiftSync_view : (shiftSync pin s).view = s.view := rfl
@[simp] theorem shiftSync_task : (shiftSync pin s).task = s.task := rfl
@[simp] theorem shiftSync_inputs : (shiftSync pin s).inputs = s.inputs := rfl
end shiftSync

section endCycle
variable (s : State)
@[simp] theorem endCycle_enabled : (endCycle s).enabled = s.enabled := rfl
@[simp] theorem endCycle_proto : (endCycle s).proto = s.proto := rfl
@[simp] theorem endCycle_sense : (endCycle s).sense = s.sense := rfl
@[simp] theorem endCycle_sync1 : (endCycle s).sync1 = s.sync1 := rfl
@[simp] theorem endCycle_sync2 : (endCycle s).sync2 = s.sync2 := rfl
@[simp] theorem endCycle_st : (endCycle s).st = s.st := rfl
@[simp] theorem endCycle_mt : (endCycle s).mt = s.mt := rfl
@[simp] theorem endCycle_edgeIe : (endCycle s).edgeIe = s.edgeIe := rfl
@[simp] theorem endCycle_out : (endCycle s).out = s.out := rfl
@[simp] theorem endCycle_dm : (endCycle s).dm = s.dm := rfl
@[simp] theorem endCycle_lm : (endCycle s).lm = s.lm := rfl
@[simp] theorem endCycle_demodDone : (endCycle s).demodDone = s.demodDone := rfl
@[simp] theorem endCycle_modDone : (endCycle s).modDone = s.modDone := rfl
@[simp] theorem endCycle_buf : (endCycle s).buf = s.buf := rfl
@[simp] theorem endCycle_par : (endCycle s).par = s.par := rfl
@[simp] theorem endCycle_faults : (endCycle s).faults = s.faults := rfl
@[simp] theorem endCycle_cycle : (endCycle s).cycle = s.cycle + 1 := rfl
@[simp] theorem endCycle_params : (endCycle s).params = s.params := rfl
@[simp] theorem endCycle_sig : (endCycle s).sig = .clear := rfl
@[simp] theorem endCycle_hop : (endCycle s).hop = s.hop := rfl
@[simp] theorem endCycle_result : (endCycle s).result = s.result := rfl
@[simp] theorem endCycle_view : (endCycle s).view = s.view := rfl
@[simp] theorem endCycle_task : (endCycle s).task = s.task := rfl
@[simp] theorem endCycle_inputs : (endCycle s).inputs = s.inputs := rfl
end endCycle

end Sys2Proof.Machine
end

