-- ==== Sys2Proof/Laws/Ops.lean ====
section
/-! SUPPORT. What each shared operation can do, said once: the inversion of a composed step, the frame of each
conditional update, and one specification lemma for each handler. A later proof cites these and unfolds no
handler. -/

namespace Sys2Proof.Machine

/-! ### Composed steps -/

@[simp] theorem andThen_next (s : State) (f : State → Res) : andThen (.next s) f = f s := rfl

/-- If a composed step answers a next state, both parts did. -/
theorem andThen_eq_next {o : Res} {f : State → Res} {t : State} (h : andThen o f = .next t) :
    ∃ s, o = .next s ∧ f s = .next t := by
  cases o with
  | next s => exact ⟨s, rfl, h⟩
  | fault r => cases h
  | refused r => cases h

/-- If a composed step faults, its first part did, or its second did after the first. -/
theorem andThen_eq_fault {o : Res} {f : State → Res} {r : Fault} (h : andThen o f = .fault r) :
    o = .fault r ∨ ∃ s, o = .next s ∧ f s = .fault r := by
  cases o with
  | next s => exact .inr ⟨s, rfl, h⟩
  | fault r' => cases h; exact .inl rfl
  | refused r' => cases h

/-! ### Conditional updates: what they leave alone -/

/-- R105: the period, the offset and the valid bit, and nothing else. -/
theorem loadSamplingBuffer_frame (s : State) :
    loadSamplingBuffer s = { s with st := { s.st with
      per := (loadSamplingBuffer s).st.per, cc := (loadSamplingBuffer s).st.cc, bufV := false } } := by
  unfold loadSamplingBuffer
  split
  · rfl
  · rename_i h
    simp only [Bool.not_eq_true] at h
    rw [← h]

/-- R104: the Sampling Timer and its wrap signal, and nothing else. -/
theorem countSampling_frame (s : State) :
    countSampling s = { s with st := (countSampling s).st, sig := (countSampling s).sig } := by
  unfold countSampling loadSamplingBuffer
  split
  · split <;> rfl
  · rfl

/-- R106: MT_CNT and the wrap signal, and nothing else. -/
theorem countModulation_frame (s : State) :
    countModulation s =
      { s with mt := { s.mt with cnt := (countModulation s).mt.cnt }, sig := (countModulation s).sig } := by
  unfold countModulation
  split
  · rfl
  · split <;> rfl

/-- R103: a restart writes the Sampling Timer only. -/
theorem restartOnEdge_frame (s : State) : restartOnEdge s = { s with st := (restartOnEdge s).st } := by
  unfold restartOnEdge loadSamplingBuffer
  split
  · split <;> rfl
  · rfl

/-- R103: a capture writes MT_CAP only. -/
theorem captureOnEdge_frame (s : State) :
    captureOnEdge s = { s with mt := { s.mt with cap := (captureOnEdge s).mt.cap } } := by
  unfold captureOnEdge
  split <;> rfl

/-- R107: SC_CNT and SC_LVL, and nothing else. -/
theorem subcarrierStep_frame (s : State) :
    subcarrierStep s = { s with out := { s.out with
      scCnt := (subcarrierStep s).out.scCnt, scLvl := (subcarrierStep s).out.scLvl } } := by
  unfold subcarrierStep
  split
  · split <;> rfl
  · rfl
  · rfl

/-- R113. -/
theorem armModulation_frame (m : TimerMode) (p : Half) (s : State) :
    armModulation m p s = { s with mt := (armModulation m p s).mt } := by
  cases m <;> rfl

/-- R115. -/
theorem setModPeriod_frame (p : Half) (s : State) :
    setModPeriod p s = { s with mt := (setModPeriod p s).mt } := by
  unfold setModPeriod
  split <;> rfl

/-- R150: what an edge handler can write. -/
theorem firstEdge_frame (s : State) :
    firstEdge s = { s with
      edgeIe := false, st := (firstEdge s).st, mt := (firstEdge s).mt, dm := (firstEdge s).dm } := by
  unfold firstEdge
  dsimp only
  split <;> rfl

/-- R103: what an edge can write. -/
theorem onEdge_frame (s : State) :
    onEdge s = { s with
      edgeIe := (onEdge s).edgeIe, st := (onEdge s).st, mt := (onEdge s).mt, dm := (onEdge s).dm } := by
  unfold onEdge
  rw [restartOnEdge_frame s, captureOnEdge_frame]
  dsimp only
  split
  · rw [firstEdge_frame]
  · rfl

/-- R101, R102: what phases 2 and 3 can write. -/
theorem earlyPhases_frame (pin : Bool) (s : State) :
    earlyPhases pin s = { s with
      sense := pin, sync1 := pin, sync2 := s.sync1, edgeIe := (earlyPhases pin s).edgeIe
      st := (earlyPhases pin s).st, mt := (earlyPhases pin s).mt, dm := (earlyPhases pin s).dm
      sig := (earlyPhases pin s).sig } := by
  have count : phaseCountModulation (phaseCountSampling s) = { s with
      st := (phaseCountModulation (phaseCountSampling s)).st
      mt := (phaseCountModulation (phaseCountSampling s)).mt
      sig := (phaseCountModulation (phaseCountSampling s)).sig } := by
    unfold phaseCountModulation phaseCountSampling
    split
    · rw [countSampling_frame]
      dsimp only
      split
      · rw [countModulation_frame]
      · rfl
    · split
      · rw [countModulation_frame]
      · rfl
  unfold earlyPhases phaseEdge
  rw [count]
  dsimp only
  split
  · rw [onEdge_frame]; rfl
  · rfl

/-- R174: what the end of a frame writes, register by register. -/
theorem endOfFrame_frame (c : ErrCause) (s : State) :
    endOfFrame c s = { s with
      st := { s.st with en := false, restartEn := false, sampleIe := false, bufV := false, cnt := 0 }
      mt := { s.mt with cmp := s.mt.cap + s.fdtClks s.dm.lastBit, capEn := false }
      dm := { s.dm with
        errCause := c, ssr := 0, ssrLen := 0, idleCnt := 0, state := .frameComplete }
      demodDone := true } := rfl

/-- R160: the inactivity test ends the frame or does nothing. -/
theorem inactivityTest_cases (s : State) :
    inactivityTest s = s ∨ ∃ c, inactivityTest s = endOfFrame c s := by
  unfold inactivityTest
  split
  · exact .inl rfl
  all_goals
    split
    · exact .inr ⟨_, rfl⟩
    · exact .inl rfl

/-! ### The framer -/

/-- Everything emit of a data bit can do (R170). -/
theorem emitData_cases {b : Bool} {s t : State} (h : emitData b s = .next t) :
    (s.dm.bitCount.toNat = s.bitcap ∧ t = { s with dm := s.dm.noteBit b .pending }) ∨
    (s.dm.bitCount.toNat ≠ s.bitcap ∧ s.bitIndex s.dm.bitCount < s.params.cap ∧
      t = { s with
        buf := s.buf.write (s.bitIndex s.dm.bitCount) (s.entryWithBit s.dm.bitCount b)
        dm := { s.dm.noteBit b .data with
          bitCount := s.dm.bitCount + 1
          state := if s.proto = .typeA ∧ (s.dm.bitCount + 1).toNat % 8 = 0 then .samplingParityBit
            else s.dm.state } }) := by
  unfold emitData at h
  split at h
  · rename_i hc; cases h; exact .inl ⟨hc, rfl⟩
  · split at h
    · cases h
    · rename_i hc hk; cases h; exact .inr ⟨hc, by omega, rfl⟩

/-- Everything emit of a parity bit can do (R171). -/
theorem emitParity_cases {b : Bool} {s t : State} (h : emitParity b s = .next t) :
    (parIndexOf s.dm.bitCount).toNat < s.params.cap ∧
    t = { s with
      par := s.par.write (parIndexOf s.dm.bitCount).toNat b
      dm := { s.dm.noteBit b .parity with
        parCount := s.dm.parCount + 1, state := .samplingDataBit } } := by
  unfold emitParity at h
  dsimp only at h
  split at h
  · cases h
  · cases h; exact ⟨by omega, rfl⟩

/-- Everything retract of a data bit can do (R172). -/
theorem retractData_cases {s t : State} (h : retractData s = .next t) :
    s.bitIndex (s.dm.bitCount - 1) < s.params.cap ∧
    ∃ v, t = { s with
      buf := s.buf.write (s.bitIndex (s.dm.bitCount - 1)) v
      dm := { s.dm with bitCount := s.dm.bitCount - 1 } } := by
  unfold retractData at h
  dsimp only at h
  split at h
  · cases h
  · cases h; exact ⟨by omega, _, rfl⟩

/-- Everything retract of a parity bit can do (R172). -/
theorem retractParity_cases {s t : State} (h : retractParity s = .next t) :
    (s.dm.parCount - 1).toNat < s.params.cap ∧
    t = { s with
      par := s.par.write (s.dm.parCount - 1).toNat false
      dm := { s.dm with parCount := s.dm.parCount - 1 } } := by
  unfold retractParity at h
  dsimp only at h
  split at h
  · cases h
  · cases h; exact ⟨by omega, rfl⟩

/-- emit writes BUF, PAR and the Demodulator only (R61, R170, R171). -/
theorem emit_frame {b : Bool} {s t : State} (h : emit b s = .next t) :
    t = { s with buf := t.buf, par := t.par, dm := t.dm } := by
  unfold emit at h
  split at h
  · rcases emitData_cases h with ⟨-, rfl⟩ | ⟨-, -, rfl⟩ <;> rfl
  · obtain ⟨-, rfl⟩ := emitParity_cases h; rfl
  · cases h; rfl
  · cases h; rfl

/-- retract writes BUF, PAR and the Demodulator only (R61, R172). -/
theorem retract_frame {s t : State} (h : retract s = .next t) :
    t = { s with buf := t.buf, par := t.par, dm := t.dm } := by
  unfold retract at h
  split at h
  · cases h; rfl
  · cases h; rfl
  · obtain ⟨u, hu, h⟩ := andThen_eq_next h
    obtain ⟨-, v, rfl⟩ := retractData_cases hu
    cases h; rfl
  · obtain ⟨u, hu, h⟩ := andThen_eq_next h
    obtain ⟨-, rfl⟩ := retractParity_cases hu
    cases h; rfl

/-- What a full window can do (R160, R165, R166, R173): end the frame at once, emit a bit and test for
inactivity, or retract a bit and end the frame. -/
theorem windowResult_cases {r : WindowClass} {s t : State} (h : windowResult r s = .next t) :
    (∃ c, t = endOfFrame c s) ∨ (∃ b u, emit b s = .next u ∧ t = inactivityTest u) ∨
    (∃ u, retract s = .next u ∧ t = endOfFrame .none u) := by
  unfold windowResult at h
  split at h
  · cases h; exact .inl ⟨_, rfl⟩
  · split at h
    · obtain ⟨u, hu, h⟩ := andThen_eq_next h
      cases h; exact .inr (.inl ⟨_, u, hu, rfl⟩)
    · obtain ⟨u, hu, h⟩ := andThen_eq_next h
      cases h; exact .inr (.inl ⟨_, u, hu, rfl⟩)
    · unfold endByEof at h
      split at h
      · obtain ⟨u, hu, h⟩ := andThen_eq_next h
        cases h; exact .inr (.inr ⟨u, hu, rfl⟩)
      · cases h; exact .inl ⟨_, rfl⟩
    · cases h; exact .inl ⟨_, rfl⟩

/-- What a sample tick can do (R160). -/
theorem sampleTick_cases {v : Bool} {s t : State} (h : sampleTick v s = .next t) :
    (¬ s.sampling ∧ t = s) ∨
    (s.sampling ∧ (s.dm.ssrLen + 1).toNat ≠ s.spb ∧ t = inactivityTest (shiftSample v s)) ∨
    (s.sampling ∧ (s.dm.ssrLen + 1).toNat = s.spb ∧
      windowResult (shiftSample v s).classify (clearWindow (shiftSample v s)) = .next t) := by
  have spb : (shiftSample v s).spb = s.spb := rfl
  have len : (shiftSample v s).dm.ssrLen = s.dm.ssrLen + 1 := rfl
  unfold sampleTick at h
  split at h
  · rename_i hd; cases h; exact .inl ⟨by simp [State.sampling, hd], rfl⟩
  · rename_i hd; cases h; exact .inl ⟨by simp [State.sampling, hd], rfl⟩
  all_goals
    rename_i hd
    dsimp only at h
    rw [spb, len] at h
    split at h
    · rename_i hl; exact .inr (.inr ⟨by simp [State.sampling, hd], hl, h⟩)
    · rename_i hl; cases h; exact .inr (.inl ⟨by simp [State.sampling, hd], hl, rfl⟩)

/-- What a sample tick can write (R160, R61). -/
theorem sampleTick_frame {v : Bool} {s t : State} (h : sampleTick v s = .next t) :
    t = { s with
      buf := t.buf, par := t.par, dm := t.dm, st := t.st, mt := t.mt, demodDone := t.demodDone } := by
  have test : ∀ u : State, inactivityTest u = { u with
      dm := (inactivityTest u).dm, st := (inactivityTest u).st, mt := (inactivityTest u).mt
      demodDone := (inactivityTest u).demodDone } := by
    intro u
    rcases inactivityTest_cases u with e | ⟨c, e⟩ <;> rw [e]
    rw [endOfFrame_frame]
  rcases sampleTick_cases h with ⟨-, rfl⟩ | ⟨-, -, rfl⟩ | ⟨-, -, hw⟩
  · rfl
  · rw [test]; rfl
  · rcases windowResult_cases hw with ⟨c, rfl⟩ | ⟨b, u, hu, rfl⟩ | ⟨u, hu, rfl⟩
    · rw [endOfFrame_frame]; rfl
    · rw [test, emit_frame hu]; rfl
    · rw [endOfFrame_frame, retract_frame hu]; rfl

/-! ### The serialiser -/

/-- What a modulation tick can write (R200, R216): BUF and PAR are read only. -/
theorem modTick_frame {s t : State} (h : modTick s = .next t) :
    t = { s with
      lm := { t.lm with txBits := s.lm.txBits, txOwnPar := s.lm.txOwnPar }
      out := t.out, mt := t.mt, modDone := t.modDone } := by
  have period : ∀ (p : Half) (u : State), setModPeriod p u = { u with mt := (setModPeriod p u).mt } :=
    fun p u => setModPeriod_frame p u
  unfold modTick at h
  split at h
  case h_2 => cases h; unfold tickFrameDelayWait; rw [period]; rfl
  case h_3 => cases h; unfold tickBitGridAlign; rw [period]; rfl
  case h_6 =>
    unfold tickDataBit0 at h
    split at h
    · cases h
    · cases h; rfl
  case h_8 =>
    unfold tickParityBit0 at h
    split at h
    · dsimp only at h
      split at h
      · cases h
      · cases h; rfl
    · cases h; rfl
  all_goals cases h; rfl

/-- A tick reads no per-cycle signal, and writes none (R101). -/
theorem modTick_sig (s : State) (g : CycleSignals) :
    modTick { s with sig := g } = andThen (modTick s) fun t => .next { t with sig := g } := by
  unfold modTick
  cases s.lm.state
  case dataBit0 =>
    by_cases h : s.params.cap ≤ s.bitIndex s.lm.txPos
    · have h' : s.params.cap ≤ State.bitIndex { s with sig := g } s.lm.txPos := h
      simp only [tickDataBit0, if_pos h, if_pos h']; rfl
    · have h' : ¬ s.params.cap ≤ State.bitIndex { s with sig := g } s.lm.txPos := h
      simp only [tickDataBit0, if_neg h, if_neg h']; rfl
  case parityBit0 =>
    simp only [tickParityBit0]
    by_cases own : s.lm.txOwnPar = true
    · by_cases h : s.params.cap ≤ (parIndexOf s.lm.txPos).toNat <;> simp only [own, h, if_true, if_false] <;> rfl
    · simp only [own]; rfl
  case dataBit1 => rfl
  case parityBit1 => rfl
  case frameDelayWait => simp only [tickFrameDelayWait, setModPeriod]; cases s.mt.mode <;> rfl
  case bitGridAlign => simp only [tickBitGridAlign, setModPeriod]; cases s.mt.mode <;> rfl
  all_goals rfl

/-! ### The STATUS word -/

/-- The fields of STATUS (R36), by the codes of Machine/Flags.lean. -/
theorem status_fields (s : State) :
    s.status.getLsbD 0 = s.demodDone ∧ s.status.getLsbD 1 = s.modDone ∧
    s.status.extractLsb' 2 2 = errCauseCode s.dm.errCause ∧
    s.status.extractLsb' 4 2 = demodStateCode s.dm.state ∧
    s.status.extractLsb' 6 4 = lmStateCode s.lm.state ∧ s.status.getLsbD 10 = s.enabled ∧
    s.status.getLsbD 11 = protocolBit s.proto ∧ s.status.getLsbD 12 = s.out.loadmod ∧
    s.status.extractLsb' 13 2 = scModeCode s.out.scMode ∧ s.status.getLsbD 15 = false ∧
    s.status.extractLsb' 16 16 = s.dm.bitCount ∧ s.status.extractLsb' 32 16 = s.dm.parCount ∧
    s.status.extractLsb' 48 16 = s.lm.txPos := by
  have e : s.status = (s.lm.txPos ++ s.dm.parCount ++ s.dm.bitCount ++ (0 : BitVec 1)
      ++ scModeCode s.out.scMode
      ++ BitVec.ofBool s.out.loadmod ++ BitVec.ofBool (protocolBit s.proto) ++ BitVec.ofBool s.enabled
      ++ lmStateCode s.lm.state ++ demodStateCode s.dm.state ++ errCauseCode s.dm.errCause
      ++ BitVec.ofBool s.modDone ++ BitVec.ofBool s.demodDone :
      BitVec (16 + 16 + 16 + 1 + 2 + 1 + 1 + 1 + 4 + 2 + 2 + 1 + 1)) := rfl
  generalize scModeCode s.out.scMode = a at *
  generalize lmStateCode s.lm.state = b at *
  generalize demodStateCode s.dm.state = c at *
  generalize errCauseCode s.dm.errCause = d at *
  generalize protocolBit s.proto = f at *
  have bits (i : Nat) : s.status.getLsbD i = _ := congrArg (fun x : BitVec 64 => x.getLsbD i) e
  refine ⟨?_, ?_, ?_, ?_, ?_, ?_, ?_, ?_, ?_, ?_, ?_, ?_, ?_⟩
  all_goals first
    | (rw [bits]; simp only [BitVec.getLsbD_append]; simp)
    | (ext i hi; rw [BitVec.getElem_extractLsb', bits]; simp only [BitVec.getLsbD_append]; grind)

/-! ### The host port -/

/-- What the checks of the port say of a word (R240). -/
theorem hostWord_cases (w : Word) (s : State) :
    (∃ r, hostWord w s = raiseFault r w s) ∨
    (∃ i, decode w = .ok i ∧ wordClass w = some .host ∧ hostWord w s = hostOperation w i s) := by
  unfold hostWord
  split
  · exact .inl ⟨_, rfl⟩
  · exact .inl ⟨_, rfl⟩
  · exact .inl ⟨_, rfl⟩
  · rename_i hc
    split
    · exact .inl ⟨_, rfl⟩
    · exact .inl ⟨_, rfl⟩
    · rename_i i hd; exact .inr ⟨i, hd, hc, rfl⟩

/-- A buffer access is let through exactly when the entry exists and the block does not own it (R63, R64). -/
theorem bufRefusal_eq_none_iff (s : State) (k : Half) :
    s.bufRefusal k = none ↔ k.toNat < s.params.cap ∧ ¬ s.sampling ∧ ¬ s.replying := by
  unfold State.bufRefusal State.blockOwns State.sampling State.replying
  by_cases h : s.params.cap ≤ k.toNat
  · simp [h]
  · cases s.dm.state <;> cases s.lm.state <;> simp [h] <;> omega

/-- CTL_ARM_REPLY is let through exactly under the conditions of R243. -/
theorem armRefusal_eq_none_iff (s : State) (n : Half) :
    s.armRefusal n = none ↔
      s.enabled = true ∧ 1 ≤ n.toNat ∧ n.toNat ≤ s.bitcap ∧ s.dm.state = .frameComplete ∧
      s.lm.state = .idle ∧ s.mt.en = true := by
  unfold State.armRefusal State.armReady
  cases s.enabled
  · simp
  · by_cases h : 1 ≤ n.toNat ∧ n.toNat ≤ s.bitcap
    · have e : ¬ (n.toNat < 1 ∨ s.bitcap < n.toNat) := by omega
      cases s.dm.state <;> cases s.lm.state <;> simp only [e, h] <;> simp
    · have e : n.toNat < 1 ∨ s.bitcap < n.toNat := by omega
      rw [if_neg (by simp), if_pos e]
      simp only [reduceCtorEq, false_iff]
      tauto

/-! ### The cycle -/

/-- Every part of a cycle that completes (R101). -/
theorem blockPhases_cases {pin : Bool} {s t : State} (h : blockPhases pin s = .next t) :
    ∃ a b, phaseSample (earlyPhases pin s) = .next a ∧ phaseMod a = .next b ∧
      t = endCycle (subcarrierStep b) := by
  obtain ⟨a, ha, h⟩ := andThen_eq_next h
  obtain ⟨b, hb, h⟩ := andThen_eq_next h
  cases h
  exact ⟨a, b, ha, hb, rfl⟩

/-- With the receiver off, as in every reply (R35 (I1), R174), phases 2 and 3 count the Modulation Timer and shift
the synchroniser, whatever the pin does. -/
theorem earlyPhases_receiverOff (pin : Bool) (s : State) (hst : s.st.en = false) (hedge : s.edgeIe = false)
    (hcap : s.mt.capEn = false) : earlyPhases pin s = shiftSync pin (phaseCountModulation s) := by
  have h : phaseCountModulation s =
      { s with mt := (phaseCountModulation s).mt, sig := (phaseCountModulation s).sig } ∧
      (phaseCountModulation s).mt.capEn = false := by
    unfold phaseCountModulation
    split
    · refine ⟨by rw [countModulation_frame s], ?_⟩
      unfold countModulation
      split
      · exact hcap
      · split <;> exact hcap
    · exact ⟨rfl, hcap⟩
  have e : phaseCountSampling s = s := by simp [phaseCountSampling, hst]
  rw [earlyPhases, e]
  obtain ⟨h, hc⟩ := h
  have h1 : (phaseCountModulation s).st = s.st := by rw [h]
  have h2 : (phaseCountModulation s).edgeIe = s.edgeIe := by rw [h]
  simp [phaseEdge, onEdge, restartOnEdge, captureOnEdge, shiftSync, h1, h2, hc, hst, hedge]

/-- Phase 4 is a sample tick or nothing (R101). -/
theorem phaseSample_cases {s t : State} (h : phaseSample s = .next t) :
    t = s ∨ (s.enabled = true ∧ s.st.en = true ∧ s.st.sampleIe = true ∧ s.sampleMatch = true ∧
      sampleTick s.readInput s = .next t) := by
  unfold phaseSample at h
  split at h
  · rename_i hc
    simp only [Bool.and_eq_true] at hc
    exact .inr ⟨hc.1.1.1, hc.1.1.2, hc.1.2, hc.2, h⟩
  · cases h; exact .inl rfl

/-- Phase 5 is a modulation tick or nothing (R101). -/
theorem phaseMod_cases {s t : State} (h : phaseMod s = .next t) :
    t = s ∨ (s.enabled = true ∧ s.mt.en = true ∧ s.mt.modIe = true ∧ s.modMatch = true ∧
      modTick s = .next t) := by
  unfold phaseMod at h
  split at h
  · rename_i hc
    simp only [Bool.and_eq_true] at hc
    exact .inr ⟨hc.1.1.1, hc.1.1.2, hc.1.2, hc.2, h⟩
  · cases h; exact .inl rfl

end Sys2Proof.Machine
end

