-- ==== Sys2Proof/Laws/PerInstr.lean ====
section
/-! SUPPORT. The families of statements made per instruction, one lemma for each constructor (LAWS.json). -/

namespace Sys2Proof.Laws

/-- The opcode of each row of spec/30_encoding.md R82. -/
def opcodeOf : Instr → BitVec 8
  | .tsArmSampling _ => 0x01
  | .tsScheduleNextSample _ _ => 0x02
  | .tsDisarmSampling => 0x03
  | .tsArmModulation _ _ => 0x04
  | .tsDisarmModulation => 0x05
  | .tsSetModPeriod _ => 0x06
  | .tsLockFdt _ => 0x07
  | .tsSetSubcarrier _ _ => 0x08
  | .tsSetLoadmod _ => 0x09
  | .tsReadInput => 0x0A
  | .tsSetEdgeIrq _ => 0x0B
  | .tsSetSampleIrq _ => 0x0C
  | .tsSetModIrq _ => 0x0D
  | .evClk _ => 0x10
  | .evEdge => 0x11
  | .evSampleTick _ => 0x12
  | .evModTick => 0x13
  | .lcInit _ => 0x20
  | .lcDeinit => 0x21
  | .ctlRestartDemod => 0x23
  | .ctlArmReply _ _ => 0x24
  | .ctlClearFlags _ _ => 0x25
  | .ctlReadStatus => 0x26
  | .bufRead _ => 0x27
  | .bufWrite _ _ => 0x28
  | .parRead _ => 0x29
  | .parWrite _ _ => 0x2A

namespace RowOpcode

/-- The word of an instruction has its row's opcode, of its class, and its reserved bits are 0 (R80, R81,
R82). -/
def Statement (i : Instr) : Prop :=
  fieldOpc (encode i) = opcodeOf i ∧ opcodeClass (opcodeOf i) = some i.opClass ∧ fieldR (encode i) = 0

theorem tsArmSampling (p : Half) : Statement (.tsArmSampling p) := by
  refine ⟨?_, rfl, ?_⟩ <;> simp [encode, opcodeOf]

theorem tsScheduleNextSample (p : Half) (o : Half) : Statement (.tsScheduleNextSample p o) := by
  refine ⟨?_, rfl, ?_⟩ <;> simp [encode, opcodeOf]

theorem tsDisarmSampling : Statement .tsDisarmSampling := by
  refine ⟨?_, rfl, ?_⟩ <;> simp [encode, opcodeOf]

theorem tsArmModulation (m : TimerMode) (p : Half) : Statement (.tsArmModulation m p) := by
  refine ⟨?_, rfl, ?_⟩ <;> simp [encode, opcodeOf]

theorem tsDisarmModulation : Statement .tsDisarmModulation := by
  refine ⟨?_, rfl, ?_⟩ <;> simp [encode, opcodeOf]

theorem tsSetModPeriod (p : Half) : Statement (.tsSetModPeriod p) := by
  refine ⟨?_, rfl, ?_⟩ <;> simp [encode, opcodeOf]

theorem tsLockFdt (b : Bool) : Statement (.tsLockFdt b) := by
  refine ⟨?_, rfl, ?_⟩ <;> simp [encode, opcodeOf]

theorem tsSetSubcarrier (m : BitVec 2) (d : Half) : Statement (.tsSetSubcarrier m d) := by
  refine ⟨?_, rfl, ?_⟩ <;> simp [encode, opcodeOf]

theorem tsSetLoadmod (b : Bool) : Statement (.tsSetLoadmod b) := by
  refine ⟨?_, rfl, ?_⟩ <;> simp [encode, opcodeOf]

theorem tsReadInput : Statement .tsReadInput := by
  refine ⟨?_, rfl, ?_⟩ <;> simp [encode, opcodeOf]

theorem tsSetEdgeIrq (b : Bool) : Statement (.tsSetEdgeIrq b) := by
  refine ⟨?_, rfl, ?_⟩ <;> simp [encode, opcodeOf]

theorem tsSetSampleIrq (b : Bool) : Statement (.tsSetSampleIrq b) := by
  refine ⟨?_, rfl, ?_⟩ <;> simp [encode, opcodeOf]

theorem tsSetModIrq (b : Bool) : Statement (.tsSetModIrq b) := by
  refine ⟨?_, rfl, ?_⟩ <;> simp [encode, opcodeOf]

theorem evClk (b : Bool) : Statement (.evClk b) := by
  refine ⟨?_, rfl, ?_⟩ <;> simp [encode, opcodeOf]

theorem evEdge : Statement .evEdge := by
  refine ⟨?_, rfl, ?_⟩ <;> simp [encode, opcodeOf]

theorem evSampleTick (b : Bool) : Statement (.evSampleTick b) := by
  refine ⟨?_, rfl, ?_⟩ <;> simp [encode, opcodeOf]

theorem evModTick : Statement .evModTick := by
  refine ⟨?_, rfl, ?_⟩ <;> simp [encode, opcodeOf]

theorem lcInit (p : Protocol) : Statement (.lcInit p) := by
  refine ⟨?_, rfl, ?_⟩ <;> simp [encode, opcodeOf]

theorem lcDeinit : Statement .lcDeinit := by
  refine ⟨?_, rfl, ?_⟩ <;> simp [encode, opcodeOf]

theorem ctlRestartDemod : Statement .ctlRestartDemod := by
  refine ⟨?_, rfl, ?_⟩ <;> simp [encode, opcodeOf]

theorem ctlArmReply (o : Bool) (n : Half) : Statement (.ctlArmReply o n) := by
  refine ⟨?_, rfl, ?_⟩ <;> simp [encode, opcodeOf]

theorem ctlClearFlags (d : Bool) (m : Bool) : Statement (.ctlClearFlags d m) := by
  refine ⟨?_, rfl, ?_⟩ <;> simp [encode, opcodeOf]

theorem ctlReadStatus : Statement .ctlReadStatus := by
  refine ⟨?_, rfl, ?_⟩ <;> simp [encode, opcodeOf]

theorem bufRead (k : Half) : Statement (.bufRead k) := by
  refine ⟨?_, rfl, ?_⟩ <;> simp [encode, opcodeOf]

theorem bufWrite (k : Half) (d : Byte) : Statement (.bufWrite k d) := by
  refine ⟨?_, rfl, ?_⟩ <;> simp [encode, opcodeOf]

theorem parRead (k : Half) : Statement (.parRead k) := by
  refine ⟨?_, rfl, ?_⟩ <;> simp [encode, opcodeOf]

theorem parWrite (k : Half) (v : Bool) : Statement (.parWrite k v) := by
  refine ⟨?_, rfl, ?_⟩ <;> simp [encode, opcodeOf]

end RowOpcode

end Sys2Proof.Laws
end

