-- ==== Sys2Proof/Machine/Asm.lean ====
section
/-! DEFINITION. The assembly syntax of spec/30_encoding.md R87 and the pseudo-operations of R88 that are other names of
an operation word: from one line of text to the words it stands for. TASK has no word (R88); its turns are in
Machine/Task.lean. What R87 leaves open of the text is log entry 25. -/

namespace Sys2Proof.Machine

/-- One operand of a row: its name and the bits of the word it fills (R82, R87). -/
structure AsmOperand where
  name : String
  low : Nat
  width : Nat
  deriving DecidableEq, Repr

/-- A mnemonic, the word with every operand 0, and the operands the line may give (R82, R87). -/
structure AsmRow where
  mnemonic : String
  base : Word
  operands : List AsmOperand
  deriving DecidableEq, Repr

/-- An operand in A[15:0]. -/
def inA (name : String) : AsmOperand := { name := name, low := 32, width := 16 }

/-- An operand in F[0]. -/
def inF0 (name : String) : AsmOperand := { name := name, low := 48, width := 1 }

/-- The INTERNAL rows (R82). -/
def asmInternalRows : List AsmRow := [
  ⟨"TS_ARM_SAMPLING", packWord 0x01 0 0 0, [inA "period"]⟩,
  ⟨"TS_SCHEDULE_NEXT_SAMPLE", packWord 0x02 0 0 0, [inA "period", ⟨"offset", 16, 16⟩]⟩,
  ⟨"TS_DISARM_SAMPLING", packWord 0x03 0 0 0, []⟩,
  ⟨"TS_ARM_MODULATION", packWord 0x04 0 0 0, [inF0 "mode", inA "period"]⟩,
  ⟨"TS_DISARM_MODULATION", packWord 0x05 0 0 0, []⟩,
  ⟨"TS_SET_MOD_PERIOD", packWord 0x06 0 0 0, [inA "period"]⟩,
  ⟨"TS_LOCK_FDT", packWord 0x07 0 0 0, [inF0 "last"]⟩,
  ⟨"TS_SET_SUBCARRIER", packWord 0x08 0 0 0, [⟨"mode", 48, 2⟩, inA "divider"]⟩,
  ⟨"TS_SET_LOADMOD", packWord 0x09 0 0 0, [inF0 "active"]⟩,
  ⟨"TS_READ_INPUT", packWord 0x0A 0 0 0, []⟩,
  ⟨"TS_SET_EDGE_IRQ", packWord 0x0B 0 0 0, [inF0 "enable"]⟩,
  ⟨"TS_SET_SAMPLE_IRQ", packWord 0x0C 0 0 0, [inF0 "enable"]⟩,
  ⟨"TS_SET_MOD_IRQ", packWord 0x0D 0 0 0, [inF0 "enable"]⟩]

/-- The EVENT rows (R82). -/
def asmEventRows : List AsmRow := [
  ⟨"EV_CLK", packWord 0x10 0 0 0, [inF0 "pin"]⟩,
  ⟨"EV_EDGE", packWord 0x11 0 0 0, []⟩,
  ⟨"EV_SAMPLE_TICK", packWord 0x12 0 0 0, [inF0 "level"]⟩,
  ⟨"EV_MOD_TICK", packWord 0x13 0 0 0, []⟩]

/-- The HOST rows (R82). -/
def asmHostRows : List AsmRow := [
  ⟨"LC_INIT", packWord 0x20 0 0 0, [inF0 "proto"]⟩,
  ⟨"LC_DEINIT", packWord 0x21 0 0 0, []⟩,
  ⟨"CTL_RESTART_DEMOD", packWord 0x23 0 0 0, []⟩,
  ⟨"CTL_ARM_REPLY", packWord 0x24 0 0 0, [inF0 "own_parity", inA "bits"]⟩,
  ⟨"CTL_CLEAR_FLAGS", packWord 0x25 0 0 0, [inF0 "demod", ⟨"mod", 49, 1⟩]⟩,
  ⟨"CTL_READ_STATUS", packWord 0x26 0 0 0, []⟩,
  ⟨"BUF_READ", packWord 0x27 0 0 0, [inA "index"]⟩,
  ⟨"BUF_WRITE", packWord 0x28 0 0 0, [inA "index", ⟨"data", 16, 8⟩]⟩,
  ⟨"PAR_READ", packWord 0x29 0 0 0, [inA "index"]⟩,
  ⟨"PAR_WRITE", packWord 0x2A 0 0 0, [inA "index", ⟨"bit", 16, 1⟩]⟩]

/-- The pseudo-operations that are one word each (R88). -/
def asmPseudoRows : List AsmRow := [
  ⟨"RESTART", encode Instr.pseudoRestart, []⟩,
  ⟨"ACK_DEMOD", encode Instr.pseudoAckDemod, []⟩,
  ⟨"ACK_MOD", encode Instr.pseudoAckMod, []⟩]

/-- Every mnemonic a line may begin with, but for the shorthand CLK. -/
def asmRows : List AsmRow := asmInternalRows ++ asmEventRows ++ asmHostRows ++ asmPseudoRows

/-- `l` cut at every `sep`. -/
def cutAt (sep : Char) : List Char → List (List Char)
  | [] => [[]]
  | c :: l =>
    match cutAt sep l with
    | [] => [[]]
    | part :: parts => if c == sep then [] :: part :: parts else (c :: part) :: parts

/-- `l` without the spaces at either end. -/
def trimSpaces (l : List Char) : List Char :=
  ((l.dropWhile (· == ' ')).reverse.dropWhile (· == ' ')).reverse

/-- One digit in `base` (R87: decimal or 0x hex). -/
def digitValue (base : Nat) (c : Char) : Option Nat :=
  let n := c.toNat
  let v := if '0'.toNat ≤ n && n ≤ '9'.toNat then n - '0'.toNat
    else if 'a'.toNat ≤ n && n ≤ 'f'.toNat then n - 'a'.toNat + 10
    else if 'A'.toNat ≤ n && n ≤ 'F'.toNat then n - 'A'.toNat + 10
    else base
  if v < base then some v else none

/-- The digits after `acc`. -/
def digitsValue (base acc : Nat) : List Char → Option Nat
  | [] => some acc
  | c :: l => (digitValue base c).bind fun d => digitsValue base (base * acc + d) l

/-- A number, decimal or 0x hex (R87). -/
def numberValue : List Char → Option Nat
  | [] => none
  | '0' :: 'x' :: l => if l.isEmpty then none else digitsValue 16 0 l
  | l => digitsValue 10 0 l

/-- An operand's value: `proto` also takes A or F, and `mode` takes OFF, OOK or DIRECT (R87). -/
def operandValue (name : String) (l : List Char) : Option Nat :=
  match numberValue l with
  | some n => some n
  | none =>
    let v := String.ofList l
    if name == "proto" then (if v == "A" then some 0 else if v == "F" then some 1 else none)
    else if name == "mode" then
      (if v == "OFF" then some 0 else if v == "OOK" then some 1 else if v == "DIRECT" then some 2 else none)
    else none

/-- `w` with the operand `name=value` put in its bits; none if the row has no such operand or the value does
not fit. -/
def placeOperand (row : AsmRow) (w : Word) (text : List Char) : Option Word :=
  match cutAt '=' text with
  | [name, value] =>
    match row.operands.find? fun o => o.name == String.ofList (trimSpaces name) with
    | none => none
    | some o =>
      (operandValue o.name (trimSpaces value)).bind fun n =>
      if n < 2 ^ o.width then some (w ||| BitVec.ofNat 64 n <<< o.low) else none
  | _ => none

/-- The word of a mnemonic and its operands, separated by commas; an omitted operand is 0 (R87). -/
def asmWord (mnemonic : List Char) (rest : List Char) : Option Word :=
  match asmRows.find? fun r => r.mnemonic == String.ofList mnemonic with
  | none => none
  | some row =>
    if rest.isEmpty then some row.base
    else (cutAt ',' rest).foldl (fun w text => w.bind fun w => placeOperand row w text) (some row.base)

/-- The first word of a trimmed text, and what follows it. -/
def firstWord (l : List Char) : List Char × List Char :=
  (l.takeWhile (· != ' '), trimSpaces (l.dropWhile (· != ' ')))

/-- One line: the words it stands for, none for no line of the syntax. `;` starts a comment, and `CLK xN pin=v`
is N EV_CLK words (R87). -/
def assembleLine (line : List Char) : Option (List Word) :=
  let text := trimSpaces (line.takeWhile (· != ';'))
  let (mnemonic, rest) := firstWord text
  if text.isEmpty then some []
  else if String.ofList mnemonic == "CLK" then
    match firstWord rest with
    | ('x' :: count, pin) =>
      (numberValue count).bind fun n =>
      (asmWord "EV_CLK".toList pin).map fun w => List.replicate n w
    | _ => none
  else (asmWord mnemonic rest).map fun w => [w]

/-- A program: the words of its lines, in order; none if a line is not of the syntax. -/
def assemble : List String → Option (List Word)
  | [] => some []
  | line :: lines =>
    (assembleLine line.toList).bind fun ws => (assemble lines).map fun more => ws ++ more

end Sys2Proof.Machine
end

