-- ==== Sys2Proof/Tests/Slice0.lean ====
section
/-! SUPPORT. Tests whose expected results are the spec's own words, tables and examples, and for every obligation
with hypotheses a state and operands that meet them all. -/

namespace Sys2Proof.Tests

open Sys2Proof.Machine

/-! ### Well-formedness: each check refuses an ill-formed term (R83, R113) -/

theorem test_wellFormed_period : (Instr.tsArmSampling 1).wellFormed = false := by decide
theorem test_wellFormed_schedule_period : (Instr.tsScheduleNextSample 1 0).wellFormed = false := by decide
theorem test_wellFormed_offset : (Instr.tsScheduleNextSample 4 4).wellFormed = false := by decide
theorem test_wellFormed_noMatch : (Instr.tsScheduleNextSample 4 0xFFFF).wellFormed = true := by decide
theorem test_wellFormed_measure : (Instr.tsArmModulation .measure 5).wellFormed = false := by decide
theorem test_wellFormed_periodic : (Instr.tsArmModulation .periodic 1).wellFormed = false := by decide
theorem test_wellFormed_modPeriod : (Instr.tsSetModPeriod 0).wellFormed = false := by decide
theorem test_wellFormed_mode : (Instr.tsSetSubcarrier 3 1).wellFormed = false := by decide
theorem test_wellFormed_divider : (Instr.tsSetSubcarrier 1 0).wellFormed = false := by decide

/-! ### Decoding: words written out from the map of R82 -/

theorem test_decode_tsArmSampling : decode 0x0100004000000000 = .ok (.tsArmSampling 64) := by decide
theorem test_decode_tsScheduleNextSample :
    decode 0x0200002000040000 = .ok (.tsScheduleNextSample 32 4) := by decide
theorem test_decode_tsDisarmSampling : decode 0x0300000000000000 = .ok .tsDisarmSampling := by decide
theorem test_decode_tsArmModulation :
    decode 0x0400000000000000 = .ok (.tsArmModulation .measure 0) ∧
    decode 0x0401000200000000 = .ok (.tsArmModulation .periodic 2) := by decide
theorem test_decode_tsDisarmModulation : decode 0x0500000000000000 = .ok .tsDisarmModulation := by decide
theorem test_decode_tsSetModPeriod : decode 0x0600FFFF00000000 = .ok (.tsSetModPeriod 0xFFFF) := by decide
theorem test_decode_tsLockFdt : decode 0x0701000000000000 = .ok (.tsLockFdt true) := by decide
theorem test_decode_tsSetSubcarrier :
    decode 0x0802000100000000 = .ok (.tsSetSubcarrier 2 1) ∧
    decode 0x0803000100000000 = .ok (.tsSetSubcarrier 3 1) := by decide
theorem test_decode_tsSetLoadmod : decode 0x0901000000000000 = .ok (.tsSetLoadmod true) := by decide
theorem test_decode_tsReadInput : decode 0x0A00000000000000 = .ok .tsReadInput := by decide
theorem test_decode_tsSetEdgeIrq : decode 0x0B01000000000000 = .ok (.tsSetEdgeIrq true) := by decide
theorem test_decode_tsSetSampleIrq : decode 0x0C01000000000000 = .ok (.tsSetSampleIrq true) := by decide
theorem test_decode_tsSetModIrq : decode 0x0D01000000000000 = .ok (.tsSetModIrq true) := by decide
theorem test_decode_evClk : decode 0x1001000000000000 = .ok (.evClk true) := by decide
theorem test_decode_evEdge : decode 0x1100000000000000 = .ok .evEdge := by decide
theorem test_decode_evSampleTick : decode 0x1201000000000000 = .ok (.evSampleTick true) := by decide
theorem test_decode_evModTick : decode 0x1300000000000000 = .ok .evModTick := by decide
theorem test_decode_lcInit :
    decode 0x2000000000000000 = .ok (.lcInit .typeA) ∧
    decode 0x2001000000000000 = .ok (.lcInit .typeF) := by decide
theorem test_decode_lcDeinit : decode 0x2100000000000000 = .ok .lcDeinit := by decide
theorem test_decode_ctlRestartDemod : decode 0x2300000000000000 = .ok .ctlRestartDemod := by decide
theorem test_decode_ctlArmReply : decode 0x2401001000000000 = .ok (.ctlArmReply true 16) := by decide
theorem test_decode_ctlClearFlags :
    decode 0x2501000000000000 = .ok (.ctlClearFlags true false) ∧
    decode 0x2502000000000000 = .ok (.ctlClearFlags false true) := by decide
theorem test_decode_ctlReadStatus : decode 0x2600000000000000 = .ok .ctlReadStatus := by decide
theorem test_decode_bufRead : decode 0x2700000300000000 = .ok (.bufRead 3) := by decide
theorem test_decode_bufWrite : decode 0x2800000000440000 = .ok (.bufWrite 0 0x44) := by decide
theorem test_decode_parRead : decode 0x2900000300000000 = .ok (.parRead 3) := by decide
theorem test_decode_parWrite : decode 0x2A00000100010000 = .ok (.parWrite 1 true) := by decide

/-- R85: the bounds of the illegal ranges. -/
theorem test_decode_illegal :
    ∀ o ∈ [0x00, 0x0E, 0x0F, 0x14, 0x1F, 0x22, 0x2B, 0xFF],
      decode (packWord o 0 0 0) = .error .illegalOpcode := by decide

/-- R80: an unused bit of F, A, B or R. -/
theorem test_decode_reserved :
    decode 0x2102000000000000 = .error .reservedNonzero ∧
    decode 0x2100000100000000 = .error .reservedNonzero ∧
    decode 0x2800000001440000 = .error .reservedNonzero ∧
    decode 0x2A00000000020000 = .error .reservedNonzero ∧
    decode 0x2100000000000001 = .error .reservedNonzero := by decide

theorem test_decodeTableWord :
    decodeTableWord 64 0x2700000300000000 = some (.bufRead 3) ∧
    decodeTableWord 64 0x2200000000000000 = none ∧ decodeTableWord 64 0x10000000000000000 = none := by decide

/-- R87, R88: the lines the spec writes out. -/
theorem test_assembly_arm :
    assemble ["CTL_ARM_REPLY bits=16, own_parity=1"] = some [0x2401001000000000] := by decide
theorem test_assembly_init :
    assemble ["LC_INIT proto=F  ; Type F", "", "CLK x2 pin=1"] =
      some [0x2001000000000000, 0x1001000000000000, 0x1001000000000000] := by decide
theorem test_assembly_pseudo :
    assemble ["RESTART", "ACK_DEMOD", "ACK_MOD"] =
      some [0x2300000000000000, 0x2501000000000000, 0x2502000000000000] := by decide
theorem test_assembly_hex :
    assemble ["BUF_WRITE index=0, data=0x44", "TS_SET_SUBCARRIER mode=OOK, divider=2"] =
      some [0x2800000000440000, 0x0801000200000000] := by decide
theorem test_assembly_task : assemble ["TASK"] = none := by decide

/-! ### Small states -/

/-- Right after LC_INIT. -/
def listening (p : Protocol) : State := clearSignals (hostLcInit p State.reset)

/-- Right after the first edge of a frame. -/
def receiving (p : Protocol) : State := onEdge (listening p)

/-- A frame has ended. -/
def complete (p : Protocol) : State := endOfFrame .none (receiving p)

/-- A reply of `n` bits has been armed. -/
def replying (p : Protocol) (n : Half) : State := armReply true n (complete p)

/-- The next answer of a meaning, for tests. -/
def after (o : Res) : State :=
  match o with
  | .next s => s
  | .fault _ | .refused _ => State.reset

def withDemod (s : State) (f : Demod → Demod) : State := { s with dm := f s.dm }

def withLm (s : State) (f : LoadMod → LoadMod) : State := { s with lm := f s.lm }

def withParams (s : State) (f : Params → Params) : State := { s with params := f s.params }

/-- A receiver one sample short of a full window, the earlier samples being `ssr`. -/
def almostFull (p : Protocol) (ssr : BitVec 8) : State :=
  withDemod (receiving p) fun d => { d with ssr := ssr, ssrLen := BitVec.ofNat 3 ((receiving p).spb - 1) }

theorem reset_inv : State.reset.Inv := by constructor <;> decide
theorem listening_inv : (listening .typeA).Inv ∧ (listening .typeF).Inv := by
  constructor <;> constructor <;> decide
theorem receiving_inv : (receiving .typeA).Inv ∧ (receiving .typeF).Inv := by
  constructor <;> constructor <;> decide
theorem complete_inv : (complete .typeA).Inv := by constructor <;> decide
theorem replying_inv : (replying .typeA 64).Inv ∧ (replying .typeF 8).Inv := by
  constructor <;> constructor <;> decide

/-! ### Effects: the spec's own examples -/

/-- R110's example. -/
theorem test_armSampling :
    (after (exec (.tsArmSampling 64) State.reset)).st.per = 64 ∧
    (after (exec (.tsArmSampling 64) State.reset)).st.cc = 0xFFFF := by decide

/-- R116's example: 700 + 1236 = 1936. -/
theorem test_lockFdt :
    (after (exec (.tsLockFdt true)
      { withParams State.reset fun p => { p with fdtClks1 := 1236 } with
        mt := { ModTimer.por with cap := 700 } })).mt.cmp = 1936 := by decide

/-- R174's example: 500 + 1172 = 1672, and DEMOD_DONE. -/
theorem test_endOfFrame :
    (endOfFrame .none { withParams (receiving .typeA) fun p => { p with fdtClks0 := 1172 } with
        mt := { ModTimer.por with cap := 500 } }).mt.cmp = 1672 ∧
    (endOfFrame .none (receiving .typeA)).demodDone = true := by decide

/-- R241's example. -/
theorem test_lcInit :
    (listening .typeA).enabled = true ∧ (listening .typeA).st.per = Config.resetParams.tBit ∧
    (listening .typeA).edgeIe = true ∧ (listening .typeA).st.cnt = 0 := by decide

/-- R240's example: LC_DEINIT while disabled is refused with NOT_ENABLED and returns 0. -/
theorem test_lcDeinit_refused :
    ((after (exec .lcDeinit State.reset)).faults.map FaultRecord.reason) = [.notEnabled] ∧
    (after (exec .lcDeinit State.reset)).result = 0 := by decide

/-- R150's example. -/
theorem test_firstEdge :
    (receiving .typeA).dm.state = .samplingDataBit ∧ (receiving .typeA).edgeIe = false ∧
    (receiving .typeA).st.sampleIe = true ∧ (receiving .typeA).st.bufV = true ∧
    (receiving .typeA).mt.en = true ∧ (receiving .typeA).mt.cnt = 0 := by decide

/-- R170's example: BIT_COUNT = 7 and b = 0 (window Y after a 1) leave BIT_COUNT = 8 in the parity state. -/
theorem test_eighthBit :
    (after (exec (.evSampleTick true) (withDemod (almostFull .typeA 0) fun d =>
      { d with bitCount := 7, lastBit := true }))).dm.bitCount = 8 ∧
    (after (exec (.evSampleTick true) (withDemod (almostFull .typeA 0) fun d =>
      { d with bitCount := 7, lastBit := true }))).dm.state = .samplingParityBit := by decide

/-- R171's example: b = 1 after byte 0 gives PAR[0] = 1 and PAR_COUNT = 1. -/
theorem test_parityBit :
    (after (exec (.evSampleTick false) (withDemod (almostFull .typeA 0) fun d =>
      { d with bitCount := 8, state := .samplingParityBit }))).readPar 0 = true ∧
    (after (exec (.evSampleTick false) (withDemod (almostFull .typeA 0) fun d =>
      { d with bitCount := 8, state := .samplingParityBit }))).dm.parCount = 1 := by decide

/-- R205's example: BUF[0] = 0x26 and TX_POS = 1 give b = 1. -/
theorem test_dataBit0 :
    (after (exec .evModTick (withLm ((replying .typeA 7).writeBuf 0 0x26) fun l =>
      { l with state := .dataBit0, txPos := 1 }))).out.loadmod = true := by decide

/-- R206's example: 13 to 14 of 14 bits gives STOP_BIT_0. -/
theorem test_dataBit1 :
    (after (exec .evModTick (withLm (replying .typeA 14) fun l =>
      { l with state := .dataBit1, txPos := 13 }))).lm.state = .stopBit0 := by decide

/-- R207's example: with own parity and PAR[0] = 0, pb = 0 whatever was accumulated. -/
theorem test_parityBit0 :
    (after (exec .evModTick (withLm ((replying .typeA 16).writePar 0 false) fun l =>
      { l with state := .parityBit0, txPos := 8, txAcc := true }))).out.loadmod = false := by decide

/-- R246's example: STATUS right after the 7-bit frame. -/
theorem test_readStatus :
    (after (exec .ctlReadStatus (withDemod (complete .typeA) fun d => { d with bitCount := 7 }))).result =
      0x0000000000070431 := by decide

/-- R100's example. -/
theorem test_evClk_off :
    (after (exec (.evClk true) { State.reset with sync1 := true })).sync1 = true ∧
    (after (exec (.evClk true) { State.reset with sync1 := true })).sync2 = true := by decide

/-- R102: a pin first LOW at cycle c - 1 is an edge at cycle c. -/
theorem test_evClk_edge :
    (after (exec (.evClk false) { listening .typeA with sync1 := true, sync2 := true })).dm.state =
      .awaitingFieldEdge ∧
    (after (exec (.evClk true) { listening .typeA with sync1 := false, sync2 := true })).dm.state =
      .samplingDataBit := by decide

/-- R248: a byte written is read back through the port. -/
theorem test_bufRead :
    (after (exec (.bufRead 3) (after (exec (.bufWrite 3 0x44) State.reset)))).result = 0x44 := by decide

theorem test_parRead :
    (after (exec (.parRead 3) (after (exec (.parWrite 3 true) State.reset)))).result = 1 := by decide

/-- Section 8 of the source, in R251: a garbage frame is never forwarded; seven bits are enough. -/
theorem test_task :
    afterStatus (withDemod (complete .typeA) fun d => { d with bitCount := 7 }).status = .awaitingAp 7 ∧
    afterStatus (withDemod (complete .typeA) fun d => { d with bitCount := 6 }).status = .restartDue ∧
    afterStatus (withDemod (complete .typeA) fun d =>
      { d with bitCount := 20, errCause := .garbage }).status = .restartDue := by decide

/-- The first step after reset runs a word placed by withFetchWord: one word of each port. -/
theorem test_withFetchWord :
    (after (step (State.reset.withFetchWord 64 0x2000000000000000))).enabled = true ∧
    (after (step (State.reset.withFetchWord 64 0x0B01000000000000))).edgeIe = true ∧
    (after (step (State.reset.withFetchWord 64 0x1001000000000000))).cycle = 1 ∧
    (after (step (State.reset.withFetchWord 64 0x1100000000000000))).view = .eventLevel := by decide

/-! ### Witnesses: for each obligation with hypotheses, a state and operands that meet them -/

/-- Each opcode range of R85 has a word, and each port a word of its class with a reserved bit set. -/
theorem witness_IllegalWordsRefused :
    fieldOpc 0x0000000000000000 = 0x00 ∧ fieldOpc 0x0E00000000000000 = 0x0E ∧
    fieldOpc 0x0F00000000000000 = 0x0F ∧ (fieldOpc 0x1400000000000000).toNat = 0x14 ∧
    (fieldOpc 0x1F00000000000000).toNat = 0x1F ∧ fieldOpc 0x2200000000000000 = 0x22 ∧
    (fieldOpc 0x2B00000000000000).toNat = 0x2B ∧ (fieldOpc 0xFF00000000000000).toNat = 0xFF ∧
    fieldR 0x2100000000000001 ≠ 0 ∧ wordClass 0x2100000000000001 = some .host ∧
    fieldR 0x1100000000008000 ≠ 0 ∧ wordClass 0x1100000000008000 = some .event ∧
    fieldR 0x0300000000000001 ≠ 0 ∧ wordClass 0x0300000000000001 = some .internal := by decide

/-- A word of a legal opcode with R = 0 that is no instruction's word: an unused F bit. -/
theorem witness_IllegalWordsRefused_unusedBit :
    wordClass 0x2102000000000000 = some .host ∧ ∀ i, encode i ≠ 0x2102000000000000 := by
  refine ⟨by decide, fun i h => ?_⟩
  have e : fieldOpc (encode i) = 0x21 := by rw [h]; decide
  cases i <;> simp [encode] at e
  revert h
  decide

theorem witness_EncodeOfDecode : decode 0x2401000E00000000 = .ok (.ctlArmReply true 14) := by decide

theorem witness_WrongPortRefused :
    wordClass 0x0300000000000000 = some .internal ∧ wordClass 0x1100000000000000 = some .event ∧
    wordClass 0x2100000000000000 = some .host ∧ State.reset.view = .cycleLevel := by decide

/-- R240's order on the host port, and that the others look at the class first too (log entry 18): a word of
another class with an unused bit set. -/
theorem test_class_before_unused_bits :
    (hostWord 0x1100000000008000 State.reset).faults.map FaultRecord.reason = [.notHostOp] ∧
    harnessPort 0x2100000000000001 State.reset = .refused .notHarnessOp ∧
    replayPort 0x2100000000000001 State.reset = .refused .notReplayOp :=
  ⟨by decide, rfl, rfl⟩

/-- InitSelectsProtocolAndListens, DeinitGivesPowerOnRegisters and RestartGivesRstRegisters: off, and on. -/
theorem witness_enabled : State.reset.enabled = false ∧ (replying .typeF 8).enabled = true := by decide

theorem witness_RestartForgetsHistory :
    (listening .typeA).enabled = true ∧ (replying .typeA 64).enabled = true ∧
    (listening .typeA).proto = (replying .typeA 64).proto ∧
    (listening .typeA).params = (replying .typeA 64).params ∧
    ∃ t t', exec .ctlRestartDemod (listening .typeA) = .next t ∧
      exec .ctlRestartDemod (replying .typeA 64) = .next t' :=
  ⟨by decide, by decide, by decide, by decide, _, _, rfl, rfl⟩

theorem witness_SamplingTimerWords :
    2 ≤ (2 : Half).toNat ∧ (1 : Half).toNat < (2 : Half).toNat ∧ (0xFFFF : Half) = 0xFFFF := by decide

theorem witness_ModulationTimerWords :
    2 ≤ (0xFFFF : Half).toNat ∧ State.reset.mt.mode = .measure ∧
    { ModTimer.por with mode := .periodic }.mode = .periodic := by decide

theorem witness_OutputInputAndEnableWords : 1 ≤ (1 : Half).toNat := by decide

theorem witness_InternalOperandsChecked :
    (Instr.tsArmSampling 1).opClass = .internal ∧ (Instr.tsArmSampling 1).wellFormed = false ∧
    (Instr.tsArmModulation .measure 2).wellFormed = false ∧
    (Instr.tsSetSubcarrier 2 1).opClass = .internal ∧ (Instr.tsSetSubcarrier 2 1).wellFormed = true := by decide

theorem witness_SamplingTimerPeriod :
    (listening .typeA).st.bufV = false ∧ (listening .typeA).st.cnt = 0 ∧
    2 ≤ (listening .typeA).st.per.toNat := by decide

/-- ModulationTimerCountAndMatch at the two counts where the periodic clauses meet. -/
theorem witness_ModulationTimerCountAndMatch :
    State.reset.mt.mode = .measure ∧
    (let m := { ModTimer.por with mode := .periodic, per := 2, cnt := 0 }
     m.mode = .periodic ∧ m.cnt.toNat + 1 < m.per.toNat) ∧
    (let m := { ModTimer.por with mode := .periodic, per := 2, cnt := 1 }
     m.mode = .periodic ∧ m.per.toNat ≤ m.cnt.toNat + 1) := by decide

theorem witness_SubcarrierSquareWave :
    (replying .typeA 64).out.scMode = .ook ∧ (replying .typeA 64).out.scCnt = 0 ∧
    (replying .typeA 64).out.scLvl = false ∧ 1 ≤ (replying .typeA 64).out.scDiv.toNat := by decide

theorem witness_AntennaLoad :
    State.reset.out.scMode = .off ∧ (replying .typeA 64).out.scMode = .ook ∧
    (replying .typeF 8).out.scMode = .direct := by decide

theorem witness_FirstEdgeStartsFrame :
    (listening .typeF).enabled = true ∧ (listening .typeF).edgeIe = true ∧
    (listening .typeF).dm.state = .awaitingFieldEdge ∧
    { receiving .typeA with edgeIe := true }.enabled = true ∧
    { receiving .typeA with edgeIe := true }.dm.state ≠ .awaitingFieldEdge := by decide

theorem witness_LaterEdgeOnlyRelocks :
    (receiving .typeA).enabled = true ∧ (receiving .typeA).edgeIe = false := by decide

theorem witness_EventsWithoutEffect :
    State.reset.enabled = false ∧ ¬ (listening .typeA).tickEnabled ∧ ¬ (listening .typeA).modTickEnabled ∧
    (complete .typeA).dm.state = .frameComplete ∧ State.reset.lm.state = .idle ∧
    (withLm State.reset fun l => { l with state := .outOfRange 3 }).lm.state = .outOfRange 3 := by decide

/-- Each row of the table of R162. -/
theorem witness_MillerTable :
    State.reset.proto = .typeA ∧
    ((1 : BitVec 8).getLsbD 1 = false ∧ (1 : BitVec 8).getLsbD 0 = true) ∧
    ((2 : BitVec 8).getLsbD 1 = true ∧ (2 : BitVec 8).getLsbD 0 = false) ∧
    ((0 : BitVec 8).getLsbD 1 = false ∧ (0 : BitVec 8).getLsbD 0 = false) ∧
    ((3 : BitVec 8).getLsbD 1 = true ∧ (3 : BitVec 8).getLsbD 0 = true) ∧
    State.reset.dm.lastBit = false ∧
    (withDemod State.reset fun d => { d with lastBit := true }).dm.lastBit = true := by decide

/-- Each clause of the Manchester table with six samples, and its first with five, the middle one a pause. -/
theorem witness_ManchesterWindows :
    (receiving .typeF).proto = .typeF ∧ (receiving .typeF).params.fCode = .manchester ∧
    (receiving .typeF).params.spbF = 6 ∧
    ((∀ i < 3, (0b111000 : BitVec 8).getLsbD (5 - i) = true) ∧ ∀ i < 3, (0b111000 : BitVec 8).getLsbD i = false) ∧
    ((∀ i < 3, (0b000111 : BitVec 8).getLsbD (5 - i) = false) ∧ ∀ i < 3, (0b000111 : BitVec 8).getLsbD i = true) ∧
    (∀ i < 6, (0 : BitVec 8).getLsbD i = false) ∧
    (¬ ((∀ i < 3, (0b101000 : BitVec 8).getLsbD (5 - i) = true) ∧
        ∀ i < 3, (0b101000 : BitVec 8).getLsbD i = false) ∧
      ¬ ((∀ i < 3, (0b101000 : BitVec 8).getLsbD (5 - i) = false) ∧
        ∀ i < 3, (0b101000 : BitVec 8).getLsbD i = true) ∧
      ¬ ∀ i < 6, (0b101000 : BitVec 8).getLsbD i = false) ∧
    ((∀ i < 2, (0b11100 : BitVec 8).getLsbD (4 - i) = true) ∧
      ∀ i < 2, (0b11100 : BitVec 8).getLsbD i = false) := by decide

theorem witness_NrzWindows :
    (withParams (receiving .typeF) fun p => { p with fCode := .nrz, spbF := 5 }).params.fCode = .nrz ∧
    (withParams (receiving .typeF) fun p => { p with fCode := .nrz, spbF := 5 }).params.spbF = 5 ∧
    (∀ i < 5, (0 : BitVec 8).getLsbD i = false) ∧ (∀ i < 5, (0b11111 : BitVec 8).getLsbD i = true) ∧
    (∃ i < 5, (0b10000 : BitVec 8).getLsbD i = true) ∧ (∃ i < 5, (0b10000 : BitVec 8).getLsbD i = false) := by
  decide

/-- SampleInOpenWindow below the inactivity threshold, and at it. -/
theorem witness_SampleInOpenWindow :
    (receiving .typeA).tickEnabled ∧ (receiving .typeA).sampling ∧
    ((receiving .typeA).dm.ssrLen + 1).toNat ≠ (receiving .typeA).spb ∧
    ((receiving .typeA).idleAfter true).toNat < (receiving .typeA).nIdle.toNat ∧
    (receiving .typeA).nIdle.toNat ≤
      ((withDemod (receiving .typeA) fun d => { d with idleCnt := 3 }).idleAfter true).toNat := by decide

/-- A Type F NRZ receiver whose next pause-free sample completes the window of the third bit in a row without a
pause, and is the eighteenth such sample: SPB_F is 6 and N_IDLE 18. -/
def idleNrz : State :=
  withDemod (withParams (almostFull .typeF 0) fun p => { p with fCode := .nrz, nIdleF := 18 }) fun d =>
    { d with bitCount := 2, lastKind := .data, idleCnt := 17 }

/-- DataBitStored: the eighth bit of a Type A byte, the last bit a Type F buffer has room for, and a bit that
reaches N_IDLE. -/
theorem witness_DataBitStored :
    (let s := withDemod (almostFull .typeA 0) fun d => { d with bitCount := 7 }
     s.tickEnabled ∧ s.dm.state = .samplingDataBit ∧ s.windowFills false .one ∧ s.dm.lastKind ≠ .pending ∧
     s.dm.bitCount.toNat < s.bitcap ∧ (s.idleAfter false).toNat < s.nIdle.toNat) ∧
    (let s := withDemod (almostFull .typeF 0b00011) fun d => { d with bitCount := 7 }
     s.tickEnabled ∧ s.dm.state = .samplingDataBit ∧ s.windowFills false .zero ∧ s.dm.lastKind ≠ .pending ∧
     s.dm.bitCount.toNat < s.bitcap ∧ (s.idleAfter false).toNat < s.nIdle.toNat) ∧
    (let s := idleNrz
     s.tickEnabled ∧ s.dm.state = .samplingDataBit ∧ s.windowFills true .zero ∧ s.dm.lastKind ≠ .pending ∧
     s.dm.bitCount.toNat < s.bitcap ∧ s.nIdle.toNat ≤ (s.idleAfter true).toNat) := by decide

theorem witness_DataBitStored_inv : idleNrz.Inv := by constructor <;> decide

/-- R160, R167: the bit that reaches N_IDLE is kept, and then the frame ends. -/
theorem test_bitThenInactivity :
    (after (exec (.evSampleTick true) idleNrz)).dm.bitCount = 3 ∧
    (after (exec (.evSampleTick true) idleNrz)).dm.state = .frameComplete ∧
    (after (exec (.evSampleTick true) idleNrz)).dm.errCause = .none := by decide

theorem witness_ParityBitStored :
    let s := withDemod (almostFull .typeA 0) fun d =>
      { d with bitCount := 64, state := .samplingParityBit, lastKind := .data }
    s.tickEnabled ∧ s.dm.state = .samplingParityBit ∧ s.windowFills false .one ∧ s.dm.lastKind ≠ .pending ∧
      8 ≤ s.dm.bitCount.toNat ∧ s.dm.bitCount.toNat / 8 ≤ s.params.cap ∧
      (s.idleAfter false).toNat < s.nIdle.toNat := by decide

/-- ParityBitStored at the inactivity threshold: a window Z whose second sample reaches N_IDLE = 1. -/
theorem witness_ParityBitStored_idle :
    let s := withDemod (withParams (almostFull .typeA 1) fun p => { p with nIdleA := 1 }) fun d =>
      { d with bitCount := 8, state := .samplingParityBit, lastKind := .data }
    s.tickEnabled ∧ s.dm.state = .samplingParityBit ∧ s.windowFills true .zero ∧ s.dm.lastKind ≠ .pending ∧
      8 ≤ s.dm.bitCount.toNat ∧ s.dm.bitCount.toNat / 8 ≤ s.params.cap ∧
      s.nIdle.toNat ≤ (s.idleAfter true).toNat := by decide

theorem witness_OverflowHeldThenReported :
    (let s := withDemod (almostFull .typeA 0) fun d => { d with bitCount := 64, lastKind := .parity }
     s.tickEnabled ∧ s.dm.state = .samplingDataBit ∧ s.windowFills false .one ∧ s.dm.lastKind ≠ .pending ∧
     s.dm.bitCount.toNat = s.bitcap ∧ (s.idleAfter false).toNat < s.nIdle.toNat) ∧
    (let s := withDemod idleNrz fun d => { d with bitCount := 8 }
     s.tickEnabled ∧ s.dm.state = .samplingDataBit ∧ s.windowFills true .zero ∧ s.dm.lastKind ≠ .pending ∧
     s.dm.bitCount.toNat = s.bitcap ∧ s.nIdle.toNat ≤ (s.idleAfter true).toNat) ∧
    (let s := withDemod (almostFull .typeA 0) fun d => { d with bitCount := 64, lastKind := .pending }
     s.tickEnabled ∧ s.sampling ∧ s.windowFills false .one ∧ s.dm.lastKind = .pending) ∧
    (let s := withDemod (almostFull .typeF 0) fun d => { d with bitCount := 8, lastKind := .pending }
     s.tickEnabled ∧ s.sampling ∧ s.windowFills true .eof ∧ s.dm.lastKind = .pending ∧ s.proto = .typeF) := by
  decide

theorem witness_GarbageEndsFrame :
    (almostFull .typeA 1).tickEnabled ∧ (almostFull .typeA 1).sampling ∧
    (almostFull .typeA 1).windowFills false .garbage ∧ (almostFull .typeA 1).dm.lastKind ≠ .pending := by decide

/-- EofRetractsItsZero: Type F; and Type A after nothing, a pending bit, the first data bit and a parity bit. -/
theorem witness_EofRetractsItsZero :
    ((almostFull .typeF 0).windowFills true .eof ∧ (almostFull .typeF 0).tickEnabled ∧
      (almostFull .typeF 0).sampling ∧ (almostFull .typeF 0).dm.lastKind ≠ .pending) ∧
    (∀ k ∈ [LastKind.none, .pending, .data, .parity],
      let s := withDemod (almostFull .typeA 0) fun d => { d with lastKind := k, bitCount := 1, parCount := 1 }
      s.windowFills true .eof ∧ s.tickEnabled ∧ s.sampling ∧ s.proto = .typeA ∧ s.dm.lastKind = k ∧
      1 ≤ s.dm.bitCount.toNat ∧ s.dm.bitCount.toNat ≤ s.bitcap ∧ 1 ≤ s.dm.parCount.toNat ∧
      s.dm.parCount.toNat ≤ s.params.cap) := by decide

/-- The empty frame, and the longest the buffer of State.reset holds: 64 data and 8 parity bits. -/
theorem witness_MillerFrameReceivedExactly :
    (receiving .typeA).proto = .typeA ∧ (receiving .typeA).params.valid ∧
    (receiving .typeA).dm = { state := .samplingDataBit, ssr := 0, ssrLen := 0, idleCnt := 0, bitCount := 0,
                              parCount := 0, lastBit := false, prevBit := false, lastKind := .none,
                              errCause := .none } ∧
    ([] : List Bool).length - ([] : List Bool).length / 9 ≤ (receiving .typeA).bitcap ∧
    (List.replicate 72 true).length - (List.replicate 72 true).length / 9 = (receiving .typeA).bitcap := by
  decide

theorem witness_FixedPatternTicks :
    (replying .typeA 64).modTickEnabled ∧ (replying .typeA 64).lm.state = .frameDelayWait ∧
    (replying .typeA 64).mt.mode = .measure ∧
    ∀ l ∈ [LmState.bitGridAlign, .startBit0, .startBit1, .stopBit0, .stopBit1, .finished],
      (withLm (replying .typeF 8) fun m => { m with state := l }).modTickEnabled ∧
      (withLm (replying .typeF 8) fun m => { m with state := l }).lm.state = l := by decide

/-- FixedPatternTicks, the cycle's clauses: an armed reply whose count is one below MT_CMP, and at it; and the
start bit one count below its wrap and one count earlier. -/
theorem witness_FixedPatternTicks_cycle :
    (let s := { replying .typeA 64 with mt := { (replying .typeA 64).mt with cnt := 39, cmp := 40 } }
     s.modTickEnabled ∧ s.betweenCycles ∧ s.st.en = false ∧ s.edgeIe = false ∧ s.mt.capEn = false ∧
     s.lm.state = .frameDelayWait ∧ s.mt.mode = .measure ∧ s.mt.cnt + 1 = s.mt.cmp ∧
     ({ s with mt := { s.mt with cnt := 40 } } : State).mt.cnt + 1 ≠ s.mt.cmp) ∧
    (let s := withLm { replying .typeF 8 with mt := { (replying .typeF 8).mt with
        mode := .periodic, per := 4, cnt := 3 } } fun l => { l with state := .startBit0 }
     s.modTickEnabled ∧ s.betweenCycles ∧ s.st.en = false ∧ s.edgeIe = false ∧ s.mt.capEn = false ∧
     s.lm.state = .startBit0 ∧ s.mt.mode = .periodic ∧ s.mt.per.toNat ≤ s.mt.cnt.toNat + 1 ∧
     ({ s with mt := { s.mt with cnt := 2 } } : State).mt.cnt.toNat + 1 < s.mt.per.toNat) := by decide

/-- R125: the FRAME_DELAY_WAIT tick is in the cycle in which MT_CNT becomes FDT_LOCK; the start bit's tick, in
the cycle of the wrap, first sets LOADMOD. -/
theorem test_evClk_modTick :
    (after (exec (.evClk true) { replying .typeA 64 with mt := { (replying .typeA 64).mt with
        cnt := 39, cmp := 40 } })).lm.state = .bitGridAlign ∧
    (after (exec (.evClk true) (withLm { replying .typeF 8 with mt := { (replying .typeF 8).mt with
        mode := .periodic, per := 4, cnt := 3 } } fun l => { l with state := .startBit0 }))).out.loadmod =
      true := by decide

/-- DataBitTicks at the last bit of the buffer. -/
theorem witness_DataBitTicks :
    (let s := withLm ((replying .typeA 64).writeBuf 7 0x80) fun l => { l with state := .dataBit0, txPos := 63 }
     s.modTickEnabled ∧ s.lm.state = .dataBit0 ∧ s.proto = .typeA ∧ s.lm.txPos.toNat / 8 < s.params.cap ∧
     true = (s.readBuf (s.lm.txPos.toNat / 8)).getLsbD (s.lm.txPos.toNat % 8)) ∧
    (let s := withLm ((replying .typeF 8).writeBuf 7 0xFE) fun l => { l with state := .dataBit0, txPos := 7 }
     s.modTickEnabled ∧ s.lm.state = .dataBit0 ∧ s.proto = .typeF ∧ s.lm.txPos.toNat < s.params.cap ∧
     false = (s.readBuf s.lm.txPos.toNat).getLsbD 0) ∧
    (withLm (replying .typeA 64) fun l => { l with state := .dataBit1 }).lm.state = .dataBit1 := by decide

theorem witness_ParityBitTicks :
    (let s := withLm (replying .typeA 64) fun l => { l with state := .parityBit0, txPos := 64 }
     s.modTickEnabled ∧ s.lm.state = .parityBit0 ∧ s.lm.txOwnPar = true ∧ 8 ≤ s.lm.txPos.toNat ∧
     s.lm.txPos.toNat / 8 ≤ s.params.cap) ∧
    (let s := withLm (replying .typeA 64) fun l => { l with state := .parityBit0, txOwnPar := false }
     s.modTickEnabled ∧ s.lm.state = .parityBit0 ∧ s.lm.txOwnPar = false) ∧
    (withLm (replying .typeA 64) fun l => { l with state := .parityBit1 }).lm.state = .parityBit1 := by decide

/-- ModTickCompletes, SampleTickCompletes and LoadOnlyDuringReply: a reply under load, and a frame. -/
theorem witness_LoadOnlyDuringReply :
    (setLoadmod true (replying .typeF 8)).Inv ∧ (setLoadmod true (replying .typeF 8)).ant = true := by
  refine ⟨?_, by decide⟩
  constructor <;> decide

/-- ReplyTakesHPlusThreeTicks and ReplyWaveformTypeA: the shortest reply and the longest. -/
theorem witness_ReplyTakesHPlusThreeTicks :
    ((replying .typeA 1).params.valid ∧ (replying .typeA 1).proto = .typeA ∧
      (replying .typeA 1).lm.state = .frameDelayWait ∧ (replying .typeA 1).lm.txPos = 0 ∧
      (replying .typeA 1).lm.txAcc = true ∧ 1 ≤ (replying .typeA 1).lm.txBits.toNat ∧
      (replying .typeA 1).lm.txBits.toNat ≤ (replying .typeA 1).bitcap) ∧
    ((replying .typeA 64).params.valid ∧ (replying .typeA 64).proto = .typeA ∧
      (replying .typeA 64).lm.state = .frameDelayWait ∧ (replying .typeA 64).lm.txPos = 0 ∧
      (replying .typeA 64).lm.txAcc = true ∧ 1 ≤ (replying .typeA 64).lm.txBits.toNat ∧
      (replying .typeA 64).lm.txBits.toNat ≤ (replying .typeA 64).bitcap) := by decide

/-- ArmReply: each refusal at its bounds, and the acceptance at both bounds of the count. -/
theorem witness_ArmReply :
    State.reset.enabled = false ∧ (complete .typeA).enabled = true ∧ (0 : Half).toNat = 0 ∧
    (complete .typeA).bitcap < (65 : Half).toNat ∧ 1 ≤ (1 : Half).toNat ∧
    (64 : Half).toNat ≤ (complete .typeA).bitcap ∧ (receiving .typeA).dm.state ≠ .frameComplete ∧
    (replying .typeA 1).lm.state ≠ .idle ∧ { complete .typeA with mt := .por }.mt.en = false ∧
    (complete .typeA).dm.state = .frameComplete ∧ (complete .typeA).lm.state = .idle ∧
    (complete .typeA).mt.en = true := by decide

/-- BufferAccess and BufferAccessRefused on both sides of CAP, and both owners. -/
theorem witness_BufferAccess :
    (7 : Half).toNat < (complete .typeA).params.cap ∧ ¬ (complete .typeA).sampling ∧
    ¬ (complete .typeA).replying ∧ (complete .typeA).params.cap ≤ (8 : Half).toNat ∧
    (receiving .typeA).sampling ∧ (replying .typeA 1).replying := by decide

theorem witness_ClearNeverLosesCompletion :
    (receiving .typeA).demodDone = false ∧ (receiving .typeA).modDone = false ∧
    ∃ t u, exec (.evClk true) { receiving .typeA with hop := none } = .next t ∧
      exec (.evClk true) { receiving .typeA with hop := some (encode (.ctlClearFlags true true)) } = .next u :=
  ⟨by decide, by decide, _, _, rfl, rfl⟩

/-- TaskContract: each case of the poll. -/
theorem witness_TaskContract :
    (complete .typeA).demodDone = true ∧ (complete .typeA).dm.bitCount.toNat < 7 ∧
    (endOfFrame .garbage (receiving .typeA)).dm.errCause ≠ .none ∧
    (complete .typeA).dm.errCause = .none ∧
    7 ≤ (withDemod (complete .typeA) fun d => { d with bitCount := 7 }).dm.bitCount.toNat ∧
    State.reset.demodDone = false ∧ State.reset.modDone = false ∧
    { State.reset with modDone := true }.modDone = true := by decide

/-- TaskContract, the steps: a turn with a word and one without, and an answer asked for and not, in both views. -/
theorem witness_TaskContract_step :
    { State.reset with inputs := [.task true] }.inputs = [.task true] ∧
    taskWord State.reset.task = some .ctlReadStatus ∧ State.reset.view = .cycleLevel ∧
    { State.reset with view := .eventLevel }.view = .eventLevel ∧
    taskWord { State.reset with task := .awaitingAp 7 }.task = none ∧
    { State.reset with inputs := [.answer .noResponse] }.inputs = [.answer .noResponse] ∧
    { State.reset with task := .awaitingAp 7 }.task = .awaitingAp 7 ∧
    ∀ n, State.reset.task ≠ .awaitingAp n := by
  refine ⟨by decide, by decide, by decide, by decide, by decide, by decide, by decide, fun n h => ?_⟩
  cases h

/-- R251: a refused arm is followed by a restart, and the answer NO_RESPONSE by one too. -/
theorem test_task_step :
    (after (step { State.reset with task := .replyDue 7 true, inputs := [.task true] })).task = .restartDue ∧
    (after (step { State.reset with task := .awaitingAp 7, inputs := [.answer .noResponse] })).task =
      .restartDue := by decide

/-- StepRunsDecodedInstruction: a word of each port, in the view of each clause. -/
theorem witness_StepRunsDecodedInstruction :
    (decode 0x1100000000000000 = .ok .evEdge ∧ Instr.evEdge.opClass = .event ∧
      { State.reset with view := .eventLevel, inputs := [.harness 0x1100000000000000] }.inputs =
        [.harness 0x1100000000000000]) ∧
    (decode 0x1001000000000000 = .ok (.evClk true) ∧ (Instr.evClk true).opClass = .event) ∧
    (decode 0x0300000000000000 = .ok .tsDisarmSampling ∧ Instr.tsDisarmSampling.opClass = .internal) ∧
    (decode 0x2600000000000000 = .ok .ctlReadStatus ∧ Instr.ctlReadStatus.opClass = .host) ∧
    State.reset.view = .cycleLevel := by decide

theorem witness_SynchroniserAlwaysShifts : ∃ t, exec (.evClk true) State.reset = .next t := ⟨_, rfl⟩

theorem witness_OffStateOnlyShifts :
    State.reset.enabled = false ∧ State.reset.offIsPor ∧ State.reset.betweenCycles := by decide

/-- OnlyInitWakes: waking, alone and in a cycle, and a change of PROTO. -/
theorem witness_OnlyInitWakes :
    State.reset.enabled = false ∧ (after (exec (.lcInit .typeF) State.reset)).enabled = true ∧
    (after (exec (.evClk true) { State.reset with hop := some (encode (.lcInit .typeF)) })).enabled = true ∧
    (after (exec (.lcInit .typeF) State.reset)).proto ≠ State.reset.proto := by decide

theorem witness_FaultRecordsAreSticky :
    ∃ t, step { State.reset with inputs := [.host 0] } = .next t := ⟨_, rfl⟩

theorem witness_EdgeRestartPrecedesCompare :
    let s := { receiving .typeA with sync2 := true }
    s.enabled = true ∧ s.betweenCycles ∧ s.sampling ∧ s.st.en = true ∧ s.st.restartEn = true ∧
      s.st.sampleIe = true ∧ s.edgeIe = false ∧ s.mt.modIe = false ∧ s.sync2 = true ∧ s.sync1 = false ∧
      (s.dm.ssrLen + 1).toNat ≠ s.spb ∧ 0 < s.nIdle.toNat ∧ s.st.bufV = true ∧ s.st.ccBuf ≠ 0 ∧
      { s.st with ccBuf := 0 }.ccBuf = 0 := by decide

theorem witness_QuietCycleOnlyCounts :
    (listening .typeA).enabled = true ∧ (listening .typeA).betweenCycles ∧
    (listening .typeA).st.sampleIe = false ∧ (listening .typeA).mt.modIe = false ∧
    (listening .typeA).sync2 = false := by decide

/-- R107: the divider's last count toggles the level, in the same cycle as the other counts. -/
theorem test_evClk_subcarrier :
    (after (exec (.evClk true) { listening .typeA with out := { OutputStage.por with
      scMode := .ook, scDiv := 2, scCnt := 1 } })).out =
      { OutputStage.por with scMode := .ook, scDiv := 2, scCnt := 0, scLvl := true } := by decide

/-- FirstSampleOfTheGrid: T_BIT + CC_SLOT is 9, and the first pause lasts to the end of the run, or some cycles
beyond the edge, or no longer than the edge's own cycle. -/
theorem witness_FirstSampleOfTheGrid :
    (receiving .typeA).params.tBit.toNat + (receiving .typeA).params.ccSlot.toNat = 9 ∧
    (receiving .typeA).sync1 = false ∧
    (∀ pins ∈ [List.replicate 9 false, List.replicate 3 false ++ List.replicate 6 true],
      pins.length = 9 ∧ (false :: pins.dropLast).Pairwise fun a b => a = true → b = true) ∧
    { receiving .typeA with sync1 := true }.sync1 = true ∧
    (true :: (List.replicate 9 true).dropLast).Pairwise (fun a b => a = true → b = true) ∧
    let s := receiving .typeA
    s.enabled = true ∧ s.proto = .typeA ∧ s.dm.state = .samplingDataBit ∧ s.dm.ssrLen = 0 ∧ s.dm.idleCnt = 0 ∧
      s.st.cnt = 0 ∧ s.st.per = s.params.tBit ∧ s.st.cc = 0xFFFF ∧ s.st.bufV = true ∧
      s.st.perBuf.toNat = s.params.tBit.toNat / 2 ∧ s.st.ccBuf = s.params.ccSlot ∧ s.sync2 = false := by decide

theorem witness_FirstSampleOfTheGrid_inv : (receiving .typeA).Inv := receiving_inv.1

/-- StepKeepsInvariant: a state of the invariant with inputs still to come. -/
theorem witness_StepKeepsInvariant :
    { receiving .typeF with inputs := [.task true, .harness 0x1100000000000000] }.Inv ∧
    { receiving .typeF with inputs := [.task true, .harness 0x1100000000000000] }.noReplay := by
  refine ⟨?_, by decide⟩
  constructor <;> decide

theorem witness_RuleInvariantsInEveryReachedState :
    Config.resetParams.valid ∧
    ∃ t, steps 1 { State.por Config.resetParams with view := .cycleLevel, inputs := [.cycle true none] } =
      .next t :=
  ⟨by decide, _, rfl⟩

end Sys2Proof.Tests
end

/-! The state's family: the invariant of R35 at power-on, in every cycle and in every step of the ports, and the STATUS
word. -/

namespace Sys2Proof.Machine

/-! ### The STATUS word -/

/-- Settles O41: the fields of STATUS, each code read off its table. -/
theorem statusWordFields : Obligations.StatusWordFields := by
  intro s
  obtain ⟨demodDone, modDone, cause, demod, lm, enabled, proto, loadmod, scMode, zero, bits, pars, pos⟩ :=
    status_fields s
  refine ⟨s.status, rfl, demodDone, modDone, ?_, ?_, ?_, enabled, ?_, loadmod, ?_, zero, bits, pars, pos⟩
  · rw [cause]; cases s.dm.errCause <;> rfl
  · rw [demod]; cases s.dm.state <;> rfl
  · rw [lm]
    cases s.lm.state with
    | outOfRange low => revert low; decide
    | _ => rfl
  · rw [proto]; cases s.proto <;> rfl
  · rw [scMode]; cases s.out.scMode <;> rfl

/-! ### The invariant inside a cycle -/

/-- Which timers, enables and flags stand in each state of the two machines: (I1) to (I6) and the facts about the
timers, without the counts of bits. -/
abbrev State.controlInStep (s : State) : Prop :=
  s.oneDirectionArmed ∧ s.doneExcludesReply ∧ s.flagsExclusive ∧ s.samplingArmed ∧ s.listeningArmed ∧
  s.lmStateInRange ∧ s.completeIsInert ∧ s.flagsTellState ∧ s.modTimerInStep ∧ s.idleIsQuiet ∧
  s.samplingTimerInStep

/-- The sample window and the framer's counts: (I7), (I8) and the facts about the framer. -/
abbrev State.framerInStep (s : State) : Prop :=
  s.countsInRange ∧ s.parityPosition ∧ s.windowOpen ∧ (s.proto = .typeA → s.framerA) ∧
  (s.proto = .typeF → s.framerF)

/-- The invariant inside a cycle, by groups of registers: phase 1 has taken the host word, the per-cycle signals may be
set, and `rest` are the inputs still to come. -/
structure State.InCycle (rest : List Stimulus) (s : State) : Prop where
  params : s.params.valid
  off : s.offIsPor
  control : s.controlInStep
  framer : s.framerInStep
  serialiser : s.serialiserInStep
  memory : s.memoryOk
  hop : s.hop = none
  inputs : s.inputs = rest

theorem State.Inv.inCycle {s : State} (h : s.Inv) : s.InCycle s.inputs := by
  obtain ⟨⟨i1, i2, i3, i4, i5, i6, i7, i8⟩, params, off, complete, flags, modTimer, quiet, samplingTimer, window,
    framerTypeA, framerTypeF, serialiser, memory, between⟩ := h
  exact ⟨params, off, ⟨i1, i2, i3, i4, i5, i6, complete, flags, modTimer, quiet, samplingTimer⟩,
    ⟨i7, i8, window, framerTypeA, framerTypeF⟩, serialiser, memory, between.2, rfl⟩

theorem State.InCycle.inv {rest : List Stimulus} {s : State} (h : s.InCycle rest) (hsig : s.sig = .clear) :
    s.Inv := by
  obtain ⟨params, off, ⟨i1, i2, i3, i4, i5, i6, complete, flags, modTimer, quiet, samplingTimer⟩,
    ⟨i7, i8, window, framerTypeA, framerTypeF⟩, serialiser, memory, hop, -⟩ := h
  exact ⟨⟨i1, i2, i3, i4, i5, i6, i7, i8⟩, params, off, complete, flags, modTimer, quiet, samplingTimer, window,
    framerTypeA, framerTypeF, serialiser, memory, hsig, hop⟩

/-- A block that is on need not stand at its power-on values. -/
theorem State.offIsPor_of_enabled {s : State} (on : s.enabled = true) : s.offIsPor := by
  simp [State.offIsPor, on]

/-! ### Bounds that legal parameters give (R8) -/

section bounds
variable {s : State}

/-- A slot is a legal period in either protocol (R83). -/
theorem two_le_tSlot (h : s.params.valid) : 2 ≤ s.tSlot.toNat := by
  obtain ⟨-, htBit, -, -, hslot, -⟩ := h
  unfold State.tSlot Params.tSlotA
  split
  · simp; omega
  · omega

/-- T_FIRST is a legal period in either protocol (R83). -/
theorem two_le_tFirst (h : s.params.valid) : 2 ≤ s.tFirst.toNat := by
  obtain ⟨-, htBit, -, -, hslot, -⟩ := h
  unfold State.tFirst
  split <;> omega

/-- SSR_LEN, of three bits, can count the samples of a window. -/
theorem spb_bounds (h : s.params.valid) : 0 < s.spb ∧ s.spb < 8 := by
  obtain ⟨-, -, -, hspb, -⟩ := h
  unfold State.spb Config.spbA
  split <;> omega

/-- BIT_COUNT, of sixteen bits, can count the bits of a frame. -/
theorem bitcap_le (h : s.params.valid) : s.bitcap ≤ 32768 := by
  obtain ⟨hcap, -⟩ := h
  unfold State.bitcap
  split <;> omega

/-- A bit below BITCAP stands in an entry of BUF (R62, R63). -/
theorem bitIndex_lt_cap {n : Half} (hn : n.toNat < s.bitcap) : s.bitIndex n < s.params.cap := by
  unfold State.bitIndex State.bitcap at *
  split <;> grind

/-- The parity bit of a complete byte stands in an entry of PAR (R63, R171, R207). -/
theorem parIndexOf_lt_cap {n : Half} (hA : s.proto = .typeA) (hpos : 0 < n.toNat) (hdvd : n.toNat % 8 = 0)
    (hn : n.toNat ≤ s.bitcap) : (parIndexOf n).toNat < s.params.cap := by
  have index : (parIndexOf n).toNat = n.toNat / 8 - 1 := by unfold parIndexOf; bv_omega
  simp only [State.bitcap, hA] at hn
  omega

end bounds

/-! ### Power-on -/

/-- Before the first bit, with an empty window, the framer is in step (R150, R244). -/
theorem framerInStep_of_empty {s : State} (h : s.params.valid) (state : s.dm.state ≠ .samplingParityBit)
    (len : s.dm.ssrLen = 0) (bits : s.dm.bitCount = 0) (pars : s.dm.parCount = 0) (kind : s.dm.lastKind = .none) :
    s.framerInStep := by
  have := (spb_bounds h).1
  grind

theorem serialiserInStep_of_idle {s : State} (h : s.lm.state = .idle) : s.serialiserInStep := by
  simp [State.serialiserInStep, State.serialiserAt, h]

/-- The invariant's base, for every legal parameter set (R310). -/
theorem por_inv {p : Params} (h : p.valid) : (State.por p).Inv := by
  have start : (State.por p).InCycle [] :=
    { params := h
      off := fun _ => ⟨rfl, rfl, rfl, rfl, rfl, rfl, rfl, rfl, rfl⟩
      control := by
        grind [State.por, SamplingTimer.por, ModTimer.por, OutputStage.por, Demod.por, LoadMod.por, LmState.inRange]
      framer := framerInStep_of_empty h nofun rfl rfl rfl rfl
      serialiser := serialiserInStep_of_idle rfl
      memory := ⟨(por_memory_wf p).1, (por_memory_wf p).2, nofun, nofun⟩
      hop := rfl
      inputs := rfl }
  exact start.inv rfl

/-- Settles O56: the parameters of `State.reset` are legal. -/
theorem invariantAtReset : Obligations.InvariantAtReset :=
  ⟨fun _ => por_inv, por_inv (by decide)⟩

/-! ### The timers and the edge (R103 to R106, R150) -/

section timers
variable {rest : List Stimulus} {s t : State}

/-- The Sampling Timer may count, restart or take its buffered period, if its enables stand and the count stays below
the period. -/
theorem State.InCycle.of_samplingTimer (h : s.InCycle rest) (on : s.enabled = true)
    (frame : t = { s with st := t.st, sig := t.sig }) (en : t.st.en = s.st.en)
    (ie : t.st.sampleIe = s.st.sampleIe) (re : t.st.restartEn = s.st.restartEn)
    (count : s.st.en = true → 2 ≤ t.st.per.toNat ∧ t.st.cnt.toNat < t.st.per.toNat)
    (buffered : t.st.bufV = true → 2 ≤ t.st.perBuf.toNat) : t.InCycle rest := by
  generalize t.st = st, t.sig = g at *
  subst frame
  exact { h with
    off := State.offIsPor_of_enabled on
    control := by have := h.control; grind }

/-- The Modulation Timer may count or capture, if its enables and its mode stand. -/
theorem State.InCycle.of_modTimer (h : s.InCycle rest) (on : s.enabled = true)
    (frame : t = { s with mt := t.mt, sig := t.sig }) (en : t.mt.en = s.mt.en) (mode : t.mt.mode = s.mt.mode)
    (ie : t.mt.modIe = s.mt.modIe) (capEn : t.mt.capEn = s.mt.capEn) : t.InCycle rest := by
  generalize t.mt = mt, t.sig = g at *
  subst frame
  exact { h with
    off := State.offIsPor_of_enabled on
    control := by have := h.control; grind }

/-- A restart of the count takes the buffered period, if there is one, and is in step with either period. -/
theorem loadSamplingBuffer_keeps (h : s.InCycle rest) (on : s.enabled = true) (g : CycleSignals) :
    (loadSamplingBuffer { s with st := { s.st with cnt := 0 }, sig := g }).InCycle rest := by
  have timer : s.samplingTimerInStep := by have := h.control; grind
  have frame := loadSamplingBuffer_frame { s with st := { s.st with cnt := 0 }, sig := g }
  apply h.of_samplingTimer on (by rw [frame]) <;> unfold loadSamplingBuffer <;> split <;> grind

theorem phaseCountSampling_keeps (h : s.InCycle rest) : (phaseCountSampling s).InCycle rest := by
  unfold phaseCountSampling countSampling
  split
  · rename_i running
    simp only [Bool.and_eq_true] at running
    obtain ⟨⟨on, -⟩, -⟩ := running
    split
    · exact loadSamplingBuffer_keeps h on _
    · have := h.control
      refine h.of_samplingTimer on rfl rfl rfl rfl ?_ ?_ <;> grind
  · exact h

theorem phaseCountModulation_keeps (h : s.InCycle rest) : (phaseCountModulation s).InCycle rest := by
  unfold phaseCountModulation
  split
  · rename_i running
    rw [countModulation_frame]
    exact h.of_modTimer (Bool.and_eq_true_iff.1 running).1 rfl rfl rfl rfl rfl
  · exact h

theorem restartOnEdge_keeps (h : s.InCycle rest) (on : s.enabled = true) : (restartOnEdge s).InCycle rest := by
  unfold restartOnEdge
  split
  · exact loadSamplingBuffer_keeps h on s.sig
  · exact h

theorem captureOnEdge_keeps (h : s.InCycle rest) (on : s.enabled = true) : (captureOnEdge s).InCycle rest := by
  rw [captureOnEdge_frame]
  exact h.of_modTimer on rfl rfl rfl rfl rfl

/-- The first edge arms the receiver with a slot for a period; any other only disarms the edge (R150). -/
theorem firstEdge_keeps (h : s.InCycle rest) (on : s.enabled = true) : (firstEdge s).InCycle rest := by
  have control := h.control
  have slot : 2 ≤ (setEdgeIrq false s).tSlot.toNat := two_le_tSlot (s := setEdgeIrq false s) h.params
  unfold firstEdge
  dsimp only [setEdgeIrq_dm]
  split
  · exact { h with
      off := State.offIsPor_of_enabled on
      control := by
        dsimp only [armModulation]
        grind [setEdgeIrq, setSampleIrq, scheduleNextSample]
      framer := framerInStep_of_empty h.params nofun rfl rfl rfl rfl }
  all_goals exact { h with off := State.offIsPor_of_enabled on, control := by grind [setEdgeIrq] }

theorem onEdge_keeps (h : s.InCycle rest) (on : s.enabled = true) : (onEdge s).InCycle rest := by
  have on1 : (restartOnEdge s).enabled = true := by rw [restartOnEdge_frame]; exact on
  have on2 : (captureOnEdge (restartOnEdge s)).enabled = true := by rw [captureOnEdge_frame]; exact on1
  have keeps := captureOnEdge_keeps (restartOnEdge_keeps h on) on1
  unfold onEdge
  dsimp only
  split
  · exact firstEdge_keeps keeps on2
  · exact keeps

end timers

/-! ### The Demodulator's sample tick (R160 to R174) -/

section sampling
variable {rest : List Stimulus} {s t : State}

/-- The Demodulator may take samples and bits, if it goes on receiving. -/
theorem State.InCycle.of_receiving (h : s.InCycle rest) (on : s.enabled = true) (receiving : s.sampling)
    (frame : t = { s with buf := t.buf, par := t.par, dm := t.dm }) (still : t.sampling) (framer : t.framerInStep)
    (memory : t.memoryOk) : t.InCycle rest := by
  generalize t.buf = b, t.par = p, t.dm = d at *
  subst frame
  exact { h with
    off := State.offIsPor_of_enabled on
    control := by have := h.control; grind
    framer := framer
    memory := memory }

/-- The end of a frame needs of the framer the ranges of its counts only, which a retraction leaves too (R174). -/
theorem endOfFrame_keeps (h : s.InCycle rest) (on : s.enabled = true) (receiving : s.sampling)
    (frame : t = { s with buf := t.buf, par := t.par, dm := t.dm }) (counts : t.countsInRange)
    (typeF : t.proto = .typeF → t.dm.parCount = 0) (memory : t.memoryOk) (c : ErrCause) :
    (endOfFrame c t).InCycle rest := by
  have := (spb_bounds h.params).1
  generalize t.buf = b, t.par = p, t.dm = d at *
  subst frame
  rw [endOfFrame_frame]
  exact { h with
    off := State.offIsPor_of_enabled on
    control := by have := h.control; grind
    framer := by grind [State.spb, State.bitcap]
    memory := memory }

/-- The end of a frame with nothing retracted. -/
theorem endOfFrame_keeps_self (h : s.InCycle rest) (on : s.enabled = true) (receiving : s.sampling) (c : ErrCause) :
    (endOfFrame c s).InCycle rest := by
  obtain ⟨counts, -, -, -, typeF⟩ := h.framer
  exact endOfFrame_keeps h on receiving rfl counts (fun hF => (typeF hF).1) h.memory c

theorem inactivityTest_keeps (h : s.InCycle rest) (on : s.enabled = true) (receiving : s.sampling) :
    (inactivityTest s).InCycle rest := by
  rcases inactivityTest_cases s with e | ⟨c, e⟩ <;> rw [e]
  · exact h
  · exact endOfFrame_keeps_self h on receiving c

/-- Only Type A has a parity state. -/
theorem typeA_of_samplingParityBit (h : s.framerInStep) (hd : s.dm.state = .samplingParityBit) :
    s.proto = .typeA := by
  cases hp : s.proto <;> grind

theorem framerInStep_of_pending (h : s.framerInStep) (hd : s.dm.state = .samplingDataBit)
    (full : s.dm.bitCount.toNat = s.bitcap) (b : Bool) :
    State.framerInStep { s with dm := s.dm.noteBit b .pending } := by
  grind [State.spb, State.bitcap, Demod.noteBit]

theorem framerInStep_of_data (hp : s.params.valid) (h : s.framerInStep) (hd : s.dm.state = .samplingDataBit)
    (room : s.dm.bitCount.toNat ≠ s.bitcap) (m : Memory Byte) (b : Bool) :
    State.framerInStep { s with
      buf := m
      dm := { s.dm.noteBit b .data with
        bitCount := s.dm.bitCount + 1
        state := if s.proto = .typeA ∧ (s.dm.bitCount + 1).toNat % 8 = 0 then .samplingParityBit
          else s.dm.state } } := by
  have := bitcap_le hp
  have next : (s.dm.bitCount + 1).toNat = s.dm.bitCount.toNat + 1 := by grind
  cases hproto : s.proto with
  | typeA => grind [State.spb, State.bitcap, Demod.noteBit]
  | typeF => grind [State.spb, State.bitcap, Demod.noteBit]

theorem framerInStep_of_parity (hp : s.params.valid) (h : s.framerInStep) (hd : s.dm.state = .samplingParityBit)
    (m : Memory Bool) (b : Bool) :
    State.framerInStep { s with
      par := m
      dm := { s.dm.noteBit b .parity with parCount := s.dm.parCount + 1, state := .samplingDataBit } } := by
  have := bitcap_le hp
  have typeA := typeA_of_samplingParityBit h hd
  have next : (s.dm.parCount + 1).toNat = s.dm.parCount.toNat + 1 := by grind
  grind [State.spb, State.bitcap, Demod.noteBit]

/-- A data bit has an entry of BUF, or the buffer is full (R63, R170). -/
theorem emitData_completes (b : Bool) (counts : s.countsInRange) : ∃ t, emitData b s = .next t := by
  unfold emitData
  split
  · exact ⟨_, rfl⟩
  · rename_i room
    rw [if_neg (bitIndex_lt_cap (Nat.lt_of_le_of_ne counts.1 room)).not_ge]
    exact ⟨_, rfl⟩

/-- A parity bit has an entry of PAR (R63, R171). -/
theorem emitParity_completes (b : Bool) (h : s.framerInStep) (hd : s.dm.state = .samplingParityBit) :
    ∃ t, emitParity b s = .next t := by
  have typeA := typeA_of_samplingParityBit h hd
  obtain ⟨counts, position, -⟩ := h
  obtain ⟨hpos, hdvd, -⟩ := position ⟨typeA, hd⟩
  unfold emitParity
  rw [if_neg (parIndexOf_lt_cap typeA hpos hdvd counts.1).not_ge]
  exact ⟨_, rfl⟩

theorem emitData_keeps (h : s.InCycle rest) (on : s.enabled = true) (hd : s.dm.state = .samplingDataBit) (b : Bool) :
    ∃ t, emitData b s = .next t ∧ t.InCycle rest ∧ t.enabled = true ∧ t.sampling := by
  obtain ⟨bufWf, parWf, bufBelow, parBelow⟩ := h.memory
  obtain ⟨t, ht⟩ := emitData_completes b h.framer.1
  refine ⟨t, ht, ?_⟩
  rcases emitData_cases ht with ⟨full, rfl⟩ | ⟨room, hk, frame⟩
  · have framer := framerInStep_of_pending h.framer hd full b
    exact ⟨h.of_receiving on (.inl hd) rfl (.inl hd) framer h.memory, on, .inl hd⟩
  · have still : t.sampling := by rw [frame]; grind
    have framer := framerInStep_of_data h.params h.framer hd room
    subst frame
    exact ⟨h.of_receiving on (.inl hd) rfl still (framer _ b)
      ⟨Memory.wf_write bufWf _ _, parWf, Memory.below_write bufBelow hk _, parBelow⟩, on, still⟩

theorem emitParity_keeps (h : s.InCycle rest) (on : s.enabled = true) (hd : s.dm.state = .samplingParityBit)
    (b : Bool) : ∃ t, emitParity b s = .next t ∧ t.InCycle rest ∧ t.enabled = true ∧ t.sampling := by
  obtain ⟨bufWf, parWf, bufBelow, parBelow⟩ := h.memory
  obtain ⟨t, ht⟩ := emitParity_completes b h.framer hd
  obtain ⟨hk, rfl⟩ := emitParity_cases ht
  exact ⟨_, ht, h.of_receiving on (.inr hd) rfl (.inl rfl) (framerInStep_of_parity h.params h.framer hd _ b)
    ⟨bufWf, Memory.wf_write parWf _ _, bufBelow, Memory.below_write parBelow hk _⟩, on, .inl rfl⟩

theorem emit_keeps (h : s.InCycle rest) (on : s.enabled = true) (receiving : s.sampling) (b : Bool) :
    ∃ t, emit b s = .next t ∧ t.InCycle rest ∧ t.enabled = true ∧ t.sampling := by
  unfold emit
  rcases receiving with hd | hd <;> rw [hd]
  · exact emitData_keeps h on hd b
  · exact emitParity_keeps h on hd b

/-- Retracting the logic 0 of a Type A end of frame completes, and leaves the counts where the end of a frame needs
them (R166, R172). -/
theorem retract_counts (h : s.InCycle rest) (receiving : s.sampling) (hA : s.proto = .typeA) :
    ∃ t, retract s = .next t ∧ t.countsInRange ∧ t.memoryOk := by
  have framer := h.framer
  have := bitcap_le h.params
  obtain ⟨bufWf, parWf, bufBelow, parBelow⟩ := h.memory
  cases hk : s.dm.lastKind with
  | none => exact ⟨forgetBit s, by simp only [retract, hk], framer.1, h.memory⟩
  | pending => exact ⟨forgetBit s, by simp only [retract, hk], framer.1, h.memory⟩
  | data =>
    have back : (s.dm.bitCount - 1).toNat = s.dm.bitCount.toNat - 1 := by grind
    have counts : (s.dm.bitCount - 1).toNat ≤ s.bitcap ∧
        (s.proto = .typeA → s.dm.parCount.toNat ≤ (s.dm.bitCount - 1).toNat / 8) := by grind
    have index : s.bitIndex (s.dm.bitCount - 1) < s.params.cap := bitIndex_lt_cap (by grind)
    simp only [retract, hk, retractData, index.not_ge, if_false, andThen_next]
    exact ⟨_, rfl, counts, Memory.wf_write bufWf _ _, parWf, Memory.below_write bufBelow index _, parBelow⟩
  | parity =>
    have back : (s.dm.parCount - 1).toNat = s.dm.parCount.toNat - 1 := by grind
    have counts : s.dm.bitCount.toNat ≤ s.bitcap ∧
        (s.proto = .typeA → (s.dm.parCount - 1).toNat ≤ s.dm.bitCount.toNat / 8) := by grind
    have index : (s.dm.parCount - 1).toNat < s.params.cap := by grind [State.bitcap]
    simp only [retract, hk, retractParity, index.not_ge, if_false, andThen_next]
    exact ⟨_, rfl, counts, bufWf, Memory.wf_write parWf _ _, bufBelow, Memory.below_write parBelow index _⟩

theorem windowResult_keeps (h : s.InCycle rest) (on : s.enabled = true) (receiving : s.sampling) (r : WindowClass) :
    ∃ t, windowResult r s = .next t ∧ t.InCycle rest := by
  have ended := endOfFrame_keeps_self h on receiving
  have emitted (b : Bool) :
      ∃ t, (andThen (emit b s) fun t => .next (inactivityTest t)) = .next t ∧ t.InCycle rest := by
    obtain ⟨t, ht, keeps, on, receiving⟩ := emit_keeps h on receiving b
    exact ⟨_, by rw [ht, andThen_next], inactivityTest_keeps keeps on receiving⟩
  unfold windowResult
  split
  · exact ⟨_, rfl, ended _⟩
  · cases r with
    | one => exact emitted true
    | zero => exact emitted false
    | garbage => exact ⟨_, rfl, ended _⟩
    | eof =>
      dsimp only [endByEof]
      split
      · rename_i hA
        obtain ⟨t, ht, counts, memory⟩ := retract_counts h receiving hA
        have frame := retract_frame ht
        have typeA : t.proto = .typeA := by rw [frame]; exact hA
        exact ⟨_, by rw [ht, andThen_next],
          endOfFrame_keeps h on receiving frame counts (by simp [typeA]) memory _⟩
      · exact ⟨_, rfl, ended _⟩

/-- The window and the inactivity count may take any value that leaves the window open. -/
theorem State.InCycle.withWindow (h : s.InCycle rest) (on : s.enabled = true) (receiving : s.sampling)
    {len : BitVec 3} (isOpen : len.toNat < s.spb) (ssr idle : BitVec 8) :
    State.InCycle rest { s with dm := { s.dm with ssr := ssr, ssrLen := len, idleCnt := idle } } := by
  refine h.of_receiving on receiving rfl receiving ?_ h.memory
  have := h.framer
  grind [State.spb, State.bitcap]

/-- While receiving, a sample fills the window, which is classified and emptied, or leaves it open. -/
theorem shiftSample_keeps (h : s.InCycle rest) (on : s.enabled = true) (receiving : s.sampling) (v : Bool) :
    ∃ t, (if (shiftSample v s).dm.ssrLen.toNat = (shiftSample v s).spb then
        windowResult (shiftSample v s).classify (clearWindow (shiftSample v s))
      else .next (inactivityTest (shiftSample v s))) = .next t ∧ t.InCycle rest := by
  obtain ⟨pos, lt⟩ := spb_bounds h.params
  obtain ⟨-, -, window, -⟩ := h.framer
  split
  · have emptied : (clearWindow (shiftSample v s)).InCycle rest := h.withWindow on receiving (len := 0) pos 0 _
    exact windowResult_keeps emptied on receiving _
  · rename_i notFull
    have isOpen : (s.dm.ssrLen + 1).toNat < s.spb := by
      have notFull : (s.dm.ssrLen + 1).toNat ≠ s.spb := notFull
      grind
    have shifted : (shiftSample v s).InCycle rest := h.withWindow on receiving isOpen _ _
    exact ⟨_, rfl, inactivityTest_keeps shifted on receiving⟩

theorem sampleTick_keeps (h : s.InCycle rest) (on : s.enabled = true) (v : Bool) :
    ∃ t, sampleTick v s = .next t ∧ t.InCycle rest := by
  unfold sampleTick
  split
  · exact ⟨_, rfl, h⟩
  · exact ⟨_, rfl, h⟩
  · rename_i hd; exact shiftSample_keeps h on (.inl hd) v
  · rename_i hd; exact shiftSample_keeps h on (.inr hd) v

end sampling

/-! ### The Load-Modulator's tick (R200 to R212) -/

section modulating
variable {rest : List Stimulus} {s t : State}

theorem setModPeriod_of_measure (p : Half) (hm : s.mt.mode = .measure) :
    setModPeriod p s = { s with mt := { s.mt with per := p, mode := .periodic, cnt := 0, capEn := false } } := by
  simp [setModPeriod, hm]

theorem setModPeriod_of_periodic (p : Half) (hm : s.mt.mode = .periodic) :
    setModPeriod p s = { s with mt := { s.mt with per := p } } := by
  simp [setModPeriod, hm]

/-- A tick may go on to another state of the reply in which the timer is periodic, if the serialiser stands where that
state needs it. -/
theorem State.InCycle.of_reply (h : s.InCycle rest) (on : s.enabled = true) (replying : s.replying)
    (frame : t = { s with lm := { t.lm with txBits := s.lm.txBits }, out := t.out, mt := t.mt })
    (state : t.lm.state ≠ .idle ∧ t.lm.state ≠ .frameDelayWait ∧ t.lm.state.inRange = true)
    (en : t.mt.en = s.mt.en) (ie : t.mt.modIe = s.mt.modIe) (mode : t.mt.mode = .periodic)
    (capEn : t.mt.capEn = true → s.mt.capEn = true) (position : t.serialiserAt t.lm.state = true) :
    t.InCycle rest := by
  have bits : t.lm.txBits = s.lm.txBits := by rw [frame]
  generalize t.lm = l, t.out = o, t.mt = m at *
  subst frame
  exact { h with
    off := State.offIsPor_of_enabled on
    control := by have := h.control; grind
    serialiser := ⟨fun _ => bits ▸ h.serialiser.1 replying, position⟩ }

/-- The tick of a half-bit leaves the timer alone (R203 to R210). -/
theorem State.InCycle.of_halfBit (h : s.InCycle rest) (on : s.enabled = true) (replying : s.replying)
    (periodic : s.mt.mode = .periodic)
    (frame : t = { s with lm := { t.lm with txBits := s.lm.txBits }, out := t.out })
    (state : t.lm.state ≠ .idle ∧ t.lm.state ≠ .frameDelayWait ∧ t.lm.state.inRange = true)
    (position : t.serialiserAt t.lm.state = true) : t.InCycle rest := by
  have timer : t.mt = s.mt := by rw [frame]
  refine h.of_reply on replying (timer ▸ frame) state ?_ ?_ ?_ ?_ position <;> rw [timer]
  · exact periodic
  · exact id

theorem tickFrameDelayWait_keeps (h : s.InCycle rest) (on : s.enabled = true)
    (hl : s.lm.state = .frameDelayWait) : (tickFrameDelayWait s).InCycle rest := by
  have measure : s.mt.mode = .measure := by have := h.control; grind
  have position := h.serialiser.2
  rw [hl] at position
  unfold tickFrameDelayWait
  rw [setModPeriod_of_measure _ measure]
  exact h.of_reply on (by simp [hl]) rfl ⟨nofun, nofun, rfl⟩ rfl rfl rfl nofun position

/-- The data bit to send is below TX_BITS, and so stands in BUF (R63, R205). -/
theorem tickDataBit0_keeps (h : s.InCycle rest) (on : s.enabled = true) (hl : s.lm.state = .dataBit0)
    (periodic : s.mt.mode = .periodic) : ∃ t, tickDataBit0 s = .next t ∧ t.InCycle rest := by
  have replying : s.replying := by simp [hl]
  obtain ⟨bits, position⟩ := h.serialiser
  rw [hl] at position
  have inFrame : s.lm.txPos.toNat < s.bitcap := Nat.lt_of_lt_of_le (of_decide_eq_true position) (bits replying).2
  unfold tickDataBit0
  rw [if_neg (bitIndex_lt_cap inFrame).not_ge]
  exact ⟨_, rfl, h.of_halfBit on replying periodic rfl ⟨nofun, nofun, rfl⟩ position⟩

/-- After a data bit come the parity bit of a full byte, the stop bit or the next data bit (R206). -/
theorem tickDataBit1_keeps (h : s.InCycle rest) (on : s.enabled = true) (hl : s.lm.state = .dataBit1)
    (periodic : s.mt.mode = .periodic) : (tickDataBit1 s).InCycle rest := by
  have position := h.serialiser.2
  rw [hl] at position
  have lt : s.lm.txPos.toNat < s.lm.txBits.toNat := of_decide_eq_true position
  have pos : 0 < (s.lm.txPos + 1).toNat := by bv_omega
  have le : (s.lm.txPos + 1).toNat ≤ s.lm.txBits.toNat := by bv_omega
  have state : (tickDataBit1 s).lm.state =
      if s.proto = .typeA ∧ (s.lm.txPos + 1).toNat % 8 = 0 then .parityBit0
      else if s.lm.txPos + 1 = s.lm.txBits then .stopBit0 else .dataBit0 := rfl
  refine h.of_halfBit on (by simp [hl]) periodic rfl ?_ ?_ <;> rw [state]
  · split_ifs <;> exact ⟨nofun, nofun, rfl⟩
  · split_ifs with byte last
    · show (s.proto == .typeA && decide ((s.lm.txPos + 1).toNat % 8 = 0) && decide (0 < (s.lm.txPos + 1).toNat)
        && decide ((s.lm.txPos + 1).toNat ≤ s.lm.txBits.toNat)) = true
      simp only [byte, pos, le, BEq.rfl, decide_true, Bool.and_self]
    · exact beq_iff_eq.2 last
    · exact decide_eq_true (Nat.lt_of_le_of_ne le (mt BitVec.eq_of_toNat_eq last))

/-- What `serialiserAt` says of the two parity states (R207, R208). -/
theorem serialiserAt_parityBit0 (s : State) : s.serialiserAt .parityBit0 = true ↔
    s.proto = .typeA ∧ s.lm.txPos.toNat % 8 = 0 ∧ 0 < s.lm.txPos.toNat ∧ s.lm.txPos.toNat ≤ s.lm.txBits.toNat := by
  simp [State.serialiserAt, and_assoc]

/-- Own parity is read from an entry of PAR (R63, R207). -/
theorem tickParityBit0_keeps (h : s.InCycle rest) (on : s.enabled = true) (hl : s.lm.state = .parityBit0)
    (periodic : s.mt.mode = .periodic) : ∃ t, tickParityBit0 s = .next t ∧ t.InCycle rest := by
  have replying : s.replying := by simp [hl]
  obtain ⟨bits, position⟩ := h.serialiser
  rw [hl] at position
  have sent (pb : Bool) : (sendParity pb s).InCycle rest :=
    h.of_halfBit on replying periodic rfl ⟨nofun, nofun, rfl⟩ position
  obtain ⟨typeA, hdvd, hpos, hle⟩ := (serialiserAt_parityBit0 s).1 position
  have index := parIndexOf_lt_cap typeA hpos hdvd (Nat.le_trans hle (bits replying).2)
  unfold tickParityBit0
  dsimp only
  rw [if_neg index.not_ge]
  split
  · exact ⟨_, rfl, sent _⟩
  · exact ⟨_, rfl, sent _⟩

/-- After a parity bit come the stop bit or the next data bit (R208). -/
theorem tickParityBit1_keeps (h : s.InCycle rest) (on : s.enabled = true) (hl : s.lm.state = .parityBit1)
    (periodic : s.mt.mode = .periodic) : (tickParityBit1 s).InCycle rest := by
  have position := h.serialiser.2
  rw [hl] at position
  obtain ⟨-, -, -, le⟩ := (serialiserAt_parityBit0 s).1 position
  have state : (tickParityBit1 s).lm.state = if s.lm.txPos = s.lm.txBits then .stopBit0 else .dataBit0 := rfl
  refine h.of_halfBit on (by simp [hl]) periodic rfl ?_ ?_ <;> rw [state]
  · split_ifs <;> exact ⟨nofun, nofun, rfl⟩
  · split_ifs with last
    · exact beq_iff_eq.2 last
    · exact decide_eq_true (Nat.lt_of_le_of_ne le (mt BitVec.eq_of_toNat_eq last))

/-- The last tick of a reply switches the transmitter off, and the receiver is off already (R211). -/
theorem tickFinished_keeps (h : s.InCycle rest) (on : s.enabled = true) (hl : s.lm.state = .finished) :
    (tickFinished s).InCycle rest :=
  { h with
    off := State.offIsPor_of_enabled on
    control := by
      have := h.control
      simp only [tickFinished, disarmModulation, setLoadmod, setSubcarrier, setLmState]
      grind [LmState.inRange]
    serialiser := serialiserInStep_of_idle rfl }

theorem modTick_keeps (h : s.InCycle rest) (on : s.enabled = true) : ∃ t, modTick s = .next t ∧ t.InCycle rest := by
  obtain ⟨bits, position⟩ := h.serialiser
  have timer : s.replying ∧ s.lm.state ≠ .frameDelayWait → s.mt.mode = .periodic := by have := h.control; grind
  unfold modTick
  cases hl : s.lm.state <;> rw [hl] at position timer <;> dsimp only
  case idle => exact ⟨_, rfl, h⟩
  case outOfRange => exact ⟨_, rfl, h⟩
  case frameDelayWait => exact ⟨_, rfl, tickFrameDelayWait_keeps h on hl⟩
  case finished => exact ⟨_, rfl, tickFinished_keeps h on hl⟩
  all_goals
    have replying : s.replying := by simp [hl]
    have periodic := timer ⟨replying, nofun⟩
  case bitGridAlign =>
    unfold tickBitGridAlign
    rw [setModPeriod_of_periodic _ periodic]
    exact ⟨_, rfl, h.of_reply on replying rfl ⟨nofun, nofun, rfl⟩ rfl rfl periodic id position⟩
  case startBit0 => exact ⟨_, rfl, h.of_halfBit on replying periodic rfl ⟨nofun, nofun, rfl⟩ position⟩
  case startBit1 =>
    have start : s.lm.txPos = 0 := eq_of_beq position
    have position : s.lm.txPos.toNat < s.lm.txBits.toNat := by rw [start]; exact (bits replying).1
    exact ⟨_, rfl, h.of_halfBit on replying periodic rfl ⟨nofun, nofun, rfl⟩ (decide_eq_true position)⟩
  case dataBit0 => exact tickDataBit0_keeps h on hl periodic
  case dataBit1 => exact ⟨_, rfl, tickDataBit1_keeps h on hl periodic⟩
  case parityBit0 => exact tickParityBit0_keeps h on hl periodic
  case parityBit1 => exact ⟨_, rfl, tickParityBit1_keeps h on hl periodic⟩
  case stopBit0 => exact ⟨_, rfl, h.of_halfBit on replying periodic rfl ⟨nofun, nofun, rfl⟩ position⟩
  case stopBit1 => exact ⟨_, rfl, h.of_halfBit on replying periodic rfl ⟨nofun, nofun, rfl⟩ position⟩

end modulating

/-! ### The host port (R240 to R250) -/

section hostPort
variable {rest : List Stimulus} {s : State}

theorem raiseFault_keeps (h : s.InCycle rest) (r : FaultReason) (w : Word) : (raiseFault r w s).InCycle rest :=
  { h with }

theorem accepted_keeps (h : s.InCycle rest) : (accepted s).InCycle rest := { h with }

/-- R244, register by register. -/
theorem restart_eq (s : State) :
    restart s = { s with
      st := { en := true, cnt := 0, per := s.tFirst, cc := noMatch, perBuf := 0, ccBuf := 0, bufV := false,
              restartEn := true, sampleIe := false }
      mt := .por, edgeIe := true, out := .por, dm := .por, lm := .por, demodDone := false, modDone := false
      sig := { s.sig with stFresh := true } } := by
  simp only [restart, disarmModulation, setSubcarrier, setLoadmod, armSamplingFresh, armSampling, setSampleIrq,
    setEdgeIrq]
  rfl

/-- A restart asks nothing of the registers it writes: LC_INIT runs it with a protocol just selected (R241). -/
theorem restart_keeps (params : s.params.valid) (on : s.enabled = true) (memory : s.memoryOk) (hop : s.hop = none)
    (inputs : s.inputs = rest) : (restart s).InCycle rest := by
  have first := two_le_tFirst params
  rw [restart_eq]
  exact
    { params := params
      off := State.offIsPor_of_enabled on
      control := by grind [ModTimer.por, OutputStage.por, Demod.por, LoadMod.por, LmState.inRange]
      framer := framerInStep_of_empty params nofun rfl rfl rfl rfl
      serialiser := serialiserInStep_of_idle rfl
      memory := memory
      hop := hop
      inputs := inputs }

theorem deinit_keeps (h : s.InCycle rest) : (deinit s).InCycle rest :=
  { h with
    off := fun _ => ⟨rfl, rfl, rfl, rfl, rfl, rfl, rfl, rfl, rfl⟩
    control := by
      grind [deinit, SamplingTimer.por, ModTimer.por, OutputStage.por, Demod.por, LoadMod.por, LmState.inRange]
    framer := framerInStep_of_empty h.params nofun rfl rfl rfl rfl
    serialiser := serialiserInStep_of_idle rfl }

theorem clearFlags_keeps (h : s.InCycle rest) (d m : Bool) : (s.clearFlags d m).InCycle rest :=
  { h with
    off := by have := h.off; grind [State.clearFlags]
    control := by have := h.control; grind [State.clearFlags] }

/-- What R243 checks before a reply is what the invariant asks of one. -/
theorem armReply_keeps (h : s.InCycle rest) {bits : Half} (ready : s.armRefusal bits = none) (own : Bool) :
    (armReply own bits s).InCycle rest := by
  obtain ⟨on, pos, le, complete, idle, running⟩ := (armRefusal_eq_none_iff s bits).1 ready
  exact { h with
    off := State.offIsPor_of_enabled on
    control := by
      have := h.control
      simp only [armReply, setModIrq, setLoadmod, setSubcarrier]
      grind [LmState.inRange]
    serialiser := ⟨fun _ => ⟨pos, le⟩, rfl⟩ }

theorem hostBufWrite_keeps (h : s.InCycle rest) (k : Half) (d : Byte) : (hostBufWrite k d s).InCycle rest := by
  obtain ⟨bufWf, parWf, bufBelow, parBelow⟩ := h.memory
  unfold hostBufWrite
  split
  · exact raiseFault_keeps h _ _
  · rename_i allowed
    have index := ((bufRefusal_eq_none_iff s k).1 allowed).1
    exact { h with memory := ⟨Memory.wf_write bufWf _ _, parWf, Memory.below_write bufBelow index _, parBelow⟩ }

theorem hostParWrite_keeps (h : s.InCycle rest) (k : Half) (v : Bool) : (hostParWrite k v s).InCycle rest := by
  obtain ⟨bufWf, parWf, bufBelow, parBelow⟩ := h.memory
  unfold hostParWrite
  split
  · exact raiseFault_keeps h _ _
  · rename_i allowed
    have index := ((bufRefusal_eq_none_iff s k).1 allowed).1
    exact { h with memory := ⟨bufWf, Memory.wf_write parWf _ _, bufBelow, Memory.below_write parBelow index _⟩ }

theorem hostOperation_keeps (h : s.InCycle rest) (w : Word) (i : Instr) : (hostOperation w i s).InCycle rest := by
  cases i
  case lcInit p =>
    simp only [hostOperation, hostLcInit]
    split
    · exact raiseFault_keeps h _ _
    · exact accepted_keeps (restart_keeps h.params rfl h.memory h.hop h.inputs)
  case lcDeinit =>
    simp only [hostOperation, hostLcDeinit]
    split
    · exact accepted_keeps (deinit_keeps h)
    · exact raiseFault_keeps h _ _
  case ctlRestartDemod =>
    simp only [hostOperation, hostCtlRestartDemod]
    split
    · rename_i on; exact accepted_keeps (restart_keeps h.params on h.memory h.hop h.inputs)
    · exact raiseFault_keeps h _ _
  case ctlArmReply own n =>
    simp only [hostOperation, hostCtlArmReply]
    split
    · exact raiseFault_keeps h _ _
    · rename_i ready; exact accepted_keeps (armReply_keeps h ready own)
  case ctlClearFlags d m => exact accepted_keeps (clearFlags_keeps h d m)
  case ctlReadStatus => exact { h with }
  case bufRead k =>
    simp only [hostOperation, hostBufRead]
    split
    · exact raiseFault_keeps h _ _
    · exact { h with }
  case parRead k =>
    simp only [hostOperation, hostParRead]
    split
    · exact raiseFault_keeps h _ _
    · exact { h with }
  case bufWrite k d => exact hostBufWrite_keeps h k d
  case parWrite k v => exact hostParWrite_keeps h k v
  all_goals exact raiseFault_keeps h _ _

theorem hostWord_keeps (h : s.InCycle rest) (w : Word) : (hostWord w s).InCycle rest := by
  rcases hostWord_cases w s with ⟨r, e⟩ | ⟨i, -, -, e⟩ <;> rw [e]
  · exact raiseFault_keeps h r w
  · exact hostOperation_keeps h w i

end hostPort

/-! ### The cycle (R101) -/

section cycle
variable {rest : List Stimulus} {s : State}

theorem phaseHost_keeps (h : State.InCycle rest { s with hop := none }) : (phaseHost s).InCycle rest := by
  unfold phaseHost
  split
  · rename_i silent; rw [← silent] at h; exact h
  · exact hostWord_keeps h _

theorem phaseEdge_keeps (h : s.InCycle rest) (pin : Bool) : (phaseEdge pin s).InCycle rest := by
  have shifted : (shiftSync pin s).InCycle rest := { h with }
  unfold phaseEdge
  dsimp only
  split
  · rename_i edge; exact onEdge_keeps shifted (Bool.and_eq_true_iff.1 edge).1
  · exact shifted

theorem earlyPhases_keeps (h : s.InCycle rest) (pin : Bool) : (earlyPhases pin s).InCycle rest :=
  phaseEdge_keeps (phaseCountModulation_keeps (phaseCountSampling_keeps h)) pin

theorem phaseSample_keeps (h : s.InCycle rest) : ∃ t, phaseSample s = .next t ∧ t.InCycle rest := by
  unfold phaseSample
  split
  · rename_i fires
    simp only [Bool.and_eq_true] at fires
    exact sampleTick_keeps h fires.1.1.1 _
  · exact ⟨s, rfl, h⟩

theorem phaseMod_keeps (h : s.InCycle rest) : ∃ t, phaseMod s = .next t ∧ t.InCycle rest := by
  unfold phaseMod
  split
  · rename_i fires
    simp only [Bool.and_eq_true] at fires
    exact modTick_keeps h fires.1.1.1
  · exact ⟨s, rfl, h⟩

/-- The generator runs in a block that is off too, and leaves its power-on values as they are (R107). -/
theorem subcarrierStep_keeps (h : s.InCycle rest) : (subcarrierStep s).InCycle rest := by
  have off : (subcarrierStep s).offIsPor := by
    intro hoff
    have por := h.off (by rw [subcarrierStep_frame] at hoff; exact hoff)
    unfold subcarrierStep
    grind [OutputStage.por]
  rw [subcarrierStep_frame] at off ⊢
  exact { h with off := off }

theorem blockPhases_keeps (h : s.InCycle rest) (pin : Bool) :
    ∃ t, blockPhases pin s = .next t ∧ t.InCycle rest ∧ t.sig = .clear := by
  obtain ⟨a, ha, keepsA⟩ := phaseSample_keeps (earlyPhases_keeps h pin)
  obtain ⟨b, hb, keepsB⟩ := phaseMod_keeps keepsA
  refine ⟨endCycle (subcarrierStep b), ?_, { subcarrierStep_keeps keepsB with }, rfl⟩
  rw [blockPhases, ha, andThen_next, hb, andThen_next]

/-- A cycle completes, keeps the invariant and takes no input of its own. -/
theorem execEvClk_keeps (h : s.Inv) (pin : Bool) (hop : Option Word) :
    ∃ t, exec (.evClk pin) { s with hop := hop } = .next t ∧ t.Inv ∧ t.inputs = s.inputs := by
  have start : State.InCycle s.inputs { clearSignals { s with hop := hop } with hop := none } :=
    { h.inCycle with hop := rfl }
  obtain ⟨t, ht, keeps, sig⟩ := blockPhases_keeps (phaseHost_keeps start) pin
  exact ⟨t, ht, keeps.inv sig, keeps.inputs⟩

/-- Settles O57: each phase in turn completes and keeps the invariant as it stands inside a cycle. -/
theorem cycleCompletesAndKeepsInvariant : Obligations.CycleCompletesAndKeepsInvariant := by
  intro pin hop s h
  obtain ⟨t, ht, inv, -⟩ := execEvClk_keeps h pin hop
  exact ⟨t, ht, inv⟩

end cycle

/-! ### The steps of the ports (R84, R251) -/

section ports
variable {s : State}

/-- What a step that takes no replayed word answers: a next state of the invariant with `rest` still to come, or a
refusal. -/
def KeepsInv (rest : List Stimulus) : Res → Prop
  | .next t => t.Inv ∧ t.inputs = rest
  | .fault _ => False
  | .refused _ => True

theorem runCycle_keeps (h : s.Inv) (pin : Bool) (hop : Option Word) : KeepsInv s.inputs (runCycle pin hop s) := by
  obtain ⟨t, ht, keeps⟩ := execEvClk_keeps h pin hop
  rw [runCycle, ht]
  exact keeps

theorem hostPort_keeps (h : s.Inv) (pin : Bool) (w : Word) : KeepsInv s.inputs (hostPort pin w s) := by
  unfold hostPort
  split
  · exact runCycle_keeps h pin (some w)
  · have keeps : (clearSignals (hostWord w s)).InCycle s.inputs := { hostWord_keeps h.inCycle w with }
    exact ⟨keeps.inv rfl, keeps.inputs⟩

/-- The events of the harness port, a cycle or one handler alone (R84, R109). -/
theorem exec_keeps_of_harnessAccepts (h : s.Inv) {i : Instr} (acc : harnessAccepts s.view i = true) :
    KeepsInv s.inputs (exec i s) := by
  have handled {t : State} (keeps : t.InCycle s.inputs) (sig : t.sig = s.sig) : KeepsInv s.inputs (.next t) :=
    ⟨keeps.inv (sig.trans h.between.1), keeps.inputs⟩
  have disabled : KeepsInv s.inputs (.next s) := ⟨h, rfl⟩
  cases i
  case evClk pin =>
    have silent : runCycle pin none s = exec (.evClk pin) s := by rw [runCycle, ← h.between.2]
    exact silent ▸ runCycle_keeps h pin none
  case evEdge =>
    simp only [exec, execEvEdge]
    split
    · rename_i on; exact handled (onEdge_keeps h.inCycle on) (by rw [onEdge_frame])
    · exact disabled
  case evSampleTick v =>
    simp only [exec, execEvSampleTick, Bool.and_eq_true]
    split
    · rename_i fires
      obtain ⟨t, ht, keeps⟩ := sampleTick_keeps h.inCycle fires.1.1 v
      rw [ht]
      exact handled keeps (by rw [sampleTick_frame ht])
    · exact disabled
  case evModTick =>
    simp only [exec, execEvModTick, Bool.and_eq_true]
    split
    · rename_i fires
      obtain ⟨t, ht, keeps⟩ := modTick_keeps h.inCycle fires.1.1
      rw [ht]
      exact handled keeps (by rw [modTick_frame ht])
    · exact disabled
  all_goals cases acc

theorem harnessPort_keeps (h : s.Inv) (w : Word) : KeepsInv s.inputs (harnessPort w s) := by
  have recorded (r : FaultReason) : KeepsInv s.inputs (.next (raiseFault r w s)) := ⟨{ h with }, rfl⟩
  unfold harnessPort
  split
  · exact recorded _
  · trivial
  · trivial
  · split
    · exact recorded _
    · split
      · rename_i acc; exact exec_keeps_of_harnessAccepts h acc
      · trivial

theorem taskTurn_keeps (h : s.Inv) (pin : Bool) : KeepsInv s.inputs (taskTurn pin s) := by
  unfold taskTurn
  split
  · unfold idleTurn
    split
    · exact runCycle_keeps h pin none
    · exact ⟨h, rfl⟩
  · rename_i i _
    have keeps := hostPort_keeps h pin (encode i)
    cases ho : hostPort pin (encode i) s with rw [ho] at keeps
    | next t => exact ⟨{ keeps.1 with }, keeps.2⟩
    | fault r => exact keeps
    | refused r => trivial

theorem oracleAnswer_keeps (h : s.Inv) (r : ApResponse) : KeepsInv s.inputs (oracleAnswer r s) := by
  unfold oracleAnswer
  split
  · exact ⟨{ h with }, rfl⟩
  all_goals trivial

theorem quietStep_keeps (h : s.Inv) : KeepsInv s.inputs (quietStep s) := by
  unfold quietStep
  split
  · exact runCycle_keeps h _ none
  · exact ⟨h, rfl⟩

theorem takeInput_keeps (h : s.Inv) {x : Stimulus} (hx : x.notReplay = true) :
    KeepsInv s.inputs (takeInput x s) := by
  cases x with
  | cycle pin hop => exact runCycle_keeps h pin hop
  | harness w => exact harnessPort_keeps h w
  | host w => exact hostPort_keeps h s.sense w
  | replay w => cases hx
  | task pin => exact taskTurn_keeps h pin
  | answer r => exact oracleAnswer_keeps h r

theorem step_keeps (h : s.Inv) (ports : s.noReplay) : KeepsInv s.inputs.tail (step s) := by
  unfold step
  split
  · rename_i quiet
    have keeps := quietStep_keeps h
    rw [quiet] at keeps ⊢
    exact keeps
  · rename_i x rest next
    rw [next]
    exact takeInput_keeps (s := { s with inputs := rest }) { h with } (ports x (by simp [next]))

/-- Settles O58: each port runs cycles, a host word or one handler, and these keep the invariant. -/
theorem stepKeepsInvariant : Obligations.StepKeepsInvariant := by
  intro s h ports
  have keeps := step_keeps h ports
  constructor
  · intro t ht
    rw [ht] at keeps
    obtain ⟨inv, inputs⟩ := keeps
    exact ⟨inv, fun x hx => ports x (List.mem_of_mem_tail (inputs ▸ hx))⟩
  · intro r hr
    rw [hr] at keeps
    exact keeps

theorem steps_keeps {k : Nat} {t : State} (h : s.Inv) (ports : s.noReplay) (ht : steps k s = .next t) : t.Inv := by
  induction k generalizing s with
  | zero => cases ht; exact h
  | succ k ih =>
    obtain ⟨u, hu, ht⟩ := andThen_eq_next ht
    obtain ⟨inv, ports⟩ := (stepKeepsInvariant s h ports).1 u hu
    exact ih inv ports ht

/-- Settles O59: the invariant holds at power-on, and by induction on the steps after them. -/
theorem ruleInvariantsInEveryReachedState : Obligations.RuleInvariantsInEveryReachedState := by
  intro p view inputs k t valid ports ht
  have start : State.Inv { State.por p with view := view, inputs := inputs } := { por_inv valid with }
  exact (steps_keeps start ports ht).rules

end ports

end Sys2Proof.Machine

/-! The memory's family: who may reach BUF and PAR (R63, R64), and a host clear against a completion in the same cycle
(R68). -/

namespace Sys2Proof.Machine

/-! ### The checks of a buffer access (R63, R64) -/

section access
variable {k : Half} {s : State}

/-- The range is checked first, whoever owns the buffers. -/
theorem bufRefusal_of_cap_le (h : s.params.cap ≤ k.toNat) : s.bufRefusal k = some .addressRange := if_pos h

theorem blockOwns_of_owned (owned : s.sampling ∨ s.replying) : s.blockOwns = true := by
  unfold State.sampling State.replying at owned
  simpa [State.blockOwns, or_assoc] using owned

theorem bufRefusal_of_lt_cap (h : k.toNat < s.params.cap) (owned : s.sampling ∨ s.replying) :
    s.bufRefusal k = some .ownership := by
  rw [State.bufRefusal, if_neg (Nat.not_le.2 h), if_pos (blockOwns_of_owned owned)]

theorem bufRefusal_ne_none (owned : s.sampling ∨ s.replying) (k : Half) : s.bufRefusal k ≠ none := by
  intro allowed
  obtain ⟨-, receiverOff, idle⟩ := (bufRefusal_eq_none_iff s k).1 allowed
  exact owned.elim receiverOff idle

/-- A refused access, of either buffer and in either direction, records its refusal and does nothing else (R240). -/
theorem exec_bufferAccess_refused {i : Instr} {d : Byte} {v : Bool} {r : FaultReason}
    (access : i = .bufRead k ∨ i = .bufWrite k d ∨ i = .parRead k ∨ i = .parWrite k v)
    (refused : s.bufRefusal k = some r) : exec i s = .next (s.recorded r (encode i)) := by
  rcases access with rfl | rfl | rfl | rfl
  · simp only [exec, execBufRead, hostBufRead, refused]; rfl
  · simp only [exec, execBufWrite, hostBufWrite, refused]; rfl
  · simp only [exec, execParRead, hostParRead, refused]; rfl
  · simp only [exec, execParWrite, hostParWrite, refused]; rfl

end access

/-- Settles O43: each check that fails first names the refusal, and a refused access only records it. -/
theorem bufferAccessRefused : Obligations.BufferAccessRefused := by
  intro i k d v s access
  exact ⟨fun h => exec_bufferAccess_refused access (bufRefusal_of_cap_le h),
    fun h owned => exec_bufferAccess_refused access (bufRefusal_of_lt_cap h owned)⟩

/-! ### Owned buffers and the host port (R64, R72) -/

/-- A restart clears no buffer (R32, R244). -/
theorem restart_keeps_buffers (s : State) : (restart s).buf = s.buf ∧ (restart s).par = s.par := by
  rw [restart_eq]
  exact ⟨rfl, rfl⟩

/-- The two words that write a buffer are refused while the block owns it, and no other operation writes one. -/
theorem hostOperation_keeps_buffers {s : State} (owned : s.sampling ∨ s.replying) (w : Word) (i : Instr) :
    (hostOperation w i s).buf = s.buf ∧ (hostOperation w i s).par = s.par := by
  cases i
  case bufWrite k d =>
    simp only [hostOperation, hostBufWrite]
    split
    · exact ⟨rfl, rfl⟩
    · rename_i allowed; exact absurd allowed (bufRefusal_ne_none owned k)
  case parWrite k v =>
    simp only [hostOperation, hostParWrite]
    split
    · exact ⟨rfl, rfl⟩
    · rename_i allowed; exact absurd allowed (bufRefusal_ne_none owned k)
  case lcInit =>
    simp only [hostOperation, hostLcInit]
    split
    · exact ⟨rfl, rfl⟩
    · exact restart_keeps_buffers _
  case lcDeinit => simp only [hostOperation, hostLcDeinit]; split <;> exact ⟨rfl, rfl⟩
  case ctlRestartDemod =>
    simp only [hostOperation, hostCtlRestartDemod]
    split
    · exact restart_keeps_buffers s
    · exact ⟨rfl, rfl⟩
  case ctlArmReply => simp only [hostOperation, hostCtlArmReply]; split <;> exact ⟨rfl, rfl⟩
  case bufRead => simp only [hostOperation, hostBufRead]; split <;> exact ⟨rfl, rfl⟩
  case parRead => simp only [hostOperation, hostParRead]; split <;> exact ⟨rfl, rfl⟩
  all_goals exact ⟨rfl, rfl⟩

/-- Settles O45: a word the port refuses writes nothing, and no operation writes a buffer the block owns. -/
theorem blockOwnedBuffersAreSafeFromHost : Obligations.BlockOwnedBuffersAreSafeFromHost := by
  intro w s owned
  rcases hostWord_cases w s with ⟨r, e⟩ | ⟨i, -, -, e⟩ <;> rw [e]
  · exact ⟨rfl, rfl⟩
  · exact hostOperation_keeps_buffers owned w i

/-! ### A clear and a completion in the same cycle (R68)

Phase 1 runs the host's clear and the handlers run after it. With both flags clear the word leaves nothing but its
result behind, and no phase of the block reads the result: the two cycles answer alike. -/

section clear
open Function (Semiconj)

/-- `s` with `r` as the last result. -/
def State.withResult (r : Word) (s : State) : State := { s with result := r }

/-- The same answer, with `r` as the last result of the state answered. -/
def resWithResult (r : Word) (o : Res) : Res := andThen o fun t => .next (t.withResult r)

/-- The operation `f` neither reads nor writes the result. -/
abbrev IgnoresResult (f : State → State) : Prop := ∀ r, Semiconj f (State.withResult r) (State.withResult r)

/-- The handler `f` neither reads nor writes the result. -/
abbrev HandlerIgnoresResult (f : State → Res) : Prop := ∀ r, Semiconj f (State.withResult r) (resWithResult r)

/-- Two functions that commute with a change give one that does, if the test between them does not see it. -/
theorem semiconj_ite {α β : Type} {f g : α → β} {c : α → Prop} [DecidablePred c] {a : α → α} {b : β → β}
    (hc : ∀ x, c (a x) ↔ c x) (hf : Semiconj f a b) (hg : Semiconj g a b) :
    Semiconj (fun x => if c x then f x else g x) a b := by
  intro x
  by_cases h : c x
  · simpa only [hc x, h, if_true] using hf x
  · simpa only [hc x, h, if_false] using hg x

theorem HandlerIgnoresResult.andThen {f g : State → Res} (hf : HandlerIgnoresResult f)
    (hg : HandlerIgnoresResult g) : HandlerIgnoresResult fun s => andThen (f s) g := by
  intro r s
  dsimp only
  rw [hf r s]
  cases f s with
  | next t => exact hg r t
  | fault => rfl
  | refused => rfl

theorem IgnoresResult.next {f : State → State} (hf : IgnoresResult f) :
    HandlerIgnoresResult fun s => .next (f s) := fun r s => congrArg _ (hf r s)

theorem IgnoresResult.comp {f g : State → State} (hg : IgnoresResult g) (hf : IgnoresResult f) :
    IgnoresResult fun s => g (f s) := fun r => (hg r).comp_left (hf r)

theorem HandlerIgnoresResult.comp {g : State → Res} {f : State → State} (hg : HandlerIgnoresResult g)
    (hf : IgnoresResult f) : HandlerIgnoresResult fun s => g (f s) := fun r => (hg r).comp_left (hf r)

/-! #### The registers the handlers branch on -/

section fields
variable (r : Word) (s : State)

@[simp] theorem withResult_proto : (s.withResult r).proto = s.proto := rfl
@[simp] theorem withResult_mt : (s.withResult r).mt = s.mt := rfl
@[simp] theorem withResult_out : (s.withResult r).out = s.out := rfl
@[simp] theorem withResult_dm : (s.withResult r).dm = s.dm := rfl
@[simp] theorem withResult_lm : (s.withResult r).lm = s.lm := rfl

end fields

/-! #### Phases 2 and 3 (R103 to R106) -/

theorem loadSamplingBuffer_ignoresResult : IgnoresResult loadSamplingBuffer := fun _ =>
  semiconj_ite (fun _ => .rfl) (fun _ => rfl) (fun _ => rfl)

theorem countSampling_ignoresResult : IgnoresResult countSampling := fun r =>
  semiconj_ite (fun _ => .rfl)
    (loadSamplingBuffer_ignoresResult.comp
      (f := fun s => { s with st := { s.st with cnt := 0 }, sig := { s.sig with stWrap := true } }) (fun _ _ => rfl) r)
    (fun _ => rfl)

theorem countModulation_ignoresResult : IgnoresResult countModulation := by
  intro r s
  simp only [countModulation, withResult_mt]
  cases s.mt.mode
  case measure => rfl
  case periodic => dsimp only; rw [apply_ite (State.withResult r)]; rfl

theorem phaseCountSampling_ignoresResult : IgnoresResult phaseCountSampling := fun r =>
  semiconj_ite (fun _ => .rfl) (countSampling_ignoresResult r) (fun _ => rfl)

theorem phaseCountModulation_ignoresResult : IgnoresResult phaseCountModulation := fun r =>
  semiconj_ite (fun _ => .rfl) (countModulation_ignoresResult r) (fun _ => rfl)

theorem restartOnEdge_ignoresResult : IgnoresResult restartOnEdge := fun r =>
  semiconj_ite (fun _ => .rfl)
    (loadSamplingBuffer_ignoresResult.comp (f := fun s => { s with st := { s.st with cnt := 0 } }) (fun _ _ => rfl) r)
    (fun _ => rfl)

theorem captureOnEdge_ignoresResult : IgnoresResult captureOnEdge := fun _ =>
  semiconj_ite (fun _ => .rfl) (fun _ => rfl) (fun _ => rfl)

theorem firstEdge_ignoresResult : IgnoresResult firstEdge := by
  intro r s
  cases h : s.dm.state <;> simp only [firstEdge, setEdgeIrq, withResult_dm, h] <;> rfl

theorem onEdge_ignoresResult : IgnoresResult onEdge :=
  IgnoresResult.comp (g := fun a => if a.edgeIe then firstEdge a else a)
    (fun r => semiconj_ite (fun _ => .rfl) (firstEdge_ignoresResult r) (fun _ => rfl))
    (captureOnEdge_ignoresResult.comp restartOnEdge_ignoresResult)

theorem phaseEdge_ignoresResult (pin : Bool) : IgnoresResult (phaseEdge pin) := fun r =>
  semiconj_ite (fun _ => .rfl) (fun s => onEdge_ignoresResult r (shiftSync pin s)) (fun _ => rfl)

theorem earlyPhases_ignoresResult (pin : Bool) : IgnoresResult (earlyPhases pin) :=
  (phaseEdge_ignoresResult pin).comp (phaseCountModulation_ignoresResult.comp phaseCountSampling_ignoresResult)

/-! #### Phase 4: the sample tick (R160 to R174) -/

theorem inactivityTest_ignoresResult : IgnoresResult inactivityTest := by
  intro r s
  simp only [inactivityTest, withResult_dm]
  cases s.dm.state
  case frameComplete => rfl
  all_goals dsimp only; rw [apply_ite (State.withResult r)]; rfl

theorem emitData_ignoresResult (b : Bool) : HandlerIgnoresResult (emitData b) := fun _ =>
  semiconj_ite (fun _ => .rfl) (fun _ => rfl) (semiconj_ite (fun _ => .rfl) (fun _ => rfl) (fun _ => rfl))

theorem emitParity_ignoresResult (b : Bool) : HandlerIgnoresResult (emitParity b) := fun _ =>
  semiconj_ite (fun _ => .rfl) (fun _ => rfl) (fun _ => rfl)

theorem retractData_ignoresResult : HandlerIgnoresResult retractData := fun _ =>
  semiconj_ite (fun _ => .rfl) (fun _ => rfl) (fun _ => rfl)

theorem retractParity_ignoresResult : HandlerIgnoresResult retractParity := fun _ =>
  semiconj_ite (fun _ => .rfl) (fun _ => rfl) (fun _ => rfl)

theorem emit_ignoresResult (b : Bool) : HandlerIgnoresResult (emit b) := by
  intro r s
  simp only [emit, withResult_dm]
  cases s.dm.state
  case samplingDataBit => exact emitData_ignoresResult b r s
  case samplingParityBit => exact emitParity_ignoresResult b r s
  all_goals rfl

theorem retract_ignoresResult : HandlerIgnoresResult retract := by
  have forget : HandlerIgnoresResult fun s => .next (forgetBit s) := fun _ _ => rfl
  intro r s
  simp only [retract, withResult_dm]
  cases s.dm.lastKind
  case data => exact retractData_ignoresResult.andThen forget r s
  case parity => exact retractParity_ignoresResult.andThen forget r s
  all_goals rfl

theorem endByEof_ignoresResult : HandlerIgnoresResult endByEof := by
  intro r s
  simp only [endByEof, withResult_proto]
  cases s.proto
  case typeA => exact retract_ignoresResult.andThen (fun _ _ => rfl) r s
  case typeF => rfl

theorem windowResult_ignoresResult (c : WindowClass) : HandlerIgnoresResult (windowResult c) := by
  intro r
  refine semiconj_ite (fun _ => .rfl) (fun _ => rfl) fun s => ?_
  cases c
  case one => exact (emit_ignoresResult true).andThen inactivityTest_ignoresResult.next r s
  case zero => exact (emit_ignoresResult false).andThen inactivityTest_ignoresResult.next r s
  case eof => exact endByEof_ignoresResult r s
  case garbage => rfl

theorem sampleTick_ignoresResult (level : Bool) : HandlerIgnoresResult (sampleTick level) := by
  intro r s
  have window : HandlerIgnoresResult fun a =>
      if a.dm.ssrLen.toNat = a.spb then windowResult a.classify (clearWindow a) else .next (inactivityTest a) :=
    fun r => semiconj_ite (fun _ => .rfl) (fun a => windowResult_ignoresResult a.classify r (clearWindow a))
      (inactivityTest_ignoresResult.next r)
  simp only [sampleTick, withResult_dm]
  cases s.dm.state
  case samplingDataBit => exact window r (shiftSample level s)
  case samplingParityBit => exact window r (shiftSample level s)
  all_goals rfl

/-! #### Phase 5: the modulation tick (R200 to R212) -/

theorem setModPeriod_ignoresResult (period : Half) : IgnoresResult (setModPeriod period) := by
  intro r s
  simp only [setModPeriod, withResult_mt]
  cases s.mt.mode <;> rfl

theorem tickDataBit0_ignoresResult : HandlerIgnoresResult tickDataBit0 := fun _ =>
  semiconj_ite (fun _ => .rfl) (fun _ => rfl) (fun _ => rfl)

theorem tickParityBit0_ignoresResult : HandlerIgnoresResult tickParityBit0 := fun _ =>
  semiconj_ite (fun _ => .rfl) (semiconj_ite (fun _ => .rfl) (fun _ => rfl) (fun _ => rfl)) (fun _ => rfl)

theorem tickFrameDelayWait_ignoresResult : IgnoresResult tickFrameDelayWait := fun r s =>
  congrArg (setLmState .bitGridAlign) (setModPeriod_ignoresResult s.params.pAlign r s)

theorem tickBitGridAlign_ignoresResult : IgnoresResult tickBitGridAlign := fun r s =>
  congrArg (setLmState .startBit0) (setModPeriod_ignoresResult s.params.pHalfTx r s)

theorem modTick_ignoresResult : HandlerIgnoresResult modTick := by
  intro r s
  simp only [modTick, withResult_lm]
  cases s.lm.state
  case frameDelayWait => exact tickFrameDelayWait_ignoresResult.next r s
  case bitGridAlign => exact tickBitGridAlign_ignoresResult.next r s
  case dataBit0 => exact tickDataBit0_ignoresResult r s
  case parityBit0 => exact tickParityBit0_ignoresResult r s
  all_goals rfl

/-! #### The whole cycle (R101) -/

theorem subcarrierStep_ignoresResult : IgnoresResult subcarrierStep := by
  intro r s
  simp only [subcarrierStep, withResult_out]
  cases s.out.scMode
  case ook => dsimp only; rw [apply_ite (State.withResult r)]; rfl
  all_goals rfl

theorem phaseSample_ignoresResult : HandlerIgnoresResult phaseSample := fun r =>
  semiconj_ite (fun _ => .rfl) (fun s => sampleTick_ignoresResult s.readInput r s) (fun _ => rfl)

theorem phaseMod_ignoresResult : HandlerIgnoresResult phaseMod := fun r =>
  semiconj_ite (fun _ => .rfl) (modTick_ignoresResult r) (fun _ => rfl)

/-- R101: phases 2 to 6 answer alike whatever the last operation returned. -/
theorem blockPhases_ignoresResult (pin : Bool) : HandlerIgnoresResult (blockPhases pin) :=
  have finish : IgnoresResult fun b => endCycle (subcarrierStep b) :=
    IgnoresResult.comp (fun _ _ => rfl) subcarrierStep_ignoresResult
  (phaseSample_ignoresResult.comp (earlyPhases_ignoresResult pin)).andThen
    (phaseMod_ignoresResult.andThen finish.next)

/-! #### The clear (R245) -/

theorem hostWord_clearFlags (d m : Bool) (s : State) :
    hostWord (encode (.ctlClearFlags d m)) s = hostCtlClearFlags d m s := by
  have hc : wordClass (encode (.ctlClearFlags d m)) = some .host := by revert d m; decide
  have hd : decode (encode (.ctlClearFlags d m)) = .ok (.ctlClearFlags d m) := by revert d m; decide
  simp only [hostWord, hc, hd, hostOperation]

theorem clearFlags_of_clear {s : State} (demod : s.demodDone = false) (mod : s.modDone = false) (d m : Bool) :
    s.clearFlags d m = s := by
  cases s
  cases demod
  cases mod
  rfl

/-- R245: with no flag to clear, the word leaves its result behind and nothing else. -/
theorem phaseHost_clearFlags {s : State} (demod : s.demodDone = false) (mod : s.modDone = false) (d m : Bool) :
    phaseHost { s with hop := some (encode (.ctlClearFlags d m)) } =
      (phaseHost { s with hop := none }).withResult 0 :=
  (hostWord_clearFlags d m { s with hop := none }).trans
    (congrArg accepted (clearFlags_of_clear (s := { s with hop := none }) demod mod d m))

/-- Settles O46: with both flags clear the word only returns 0, and the phases after it, which set the flags, do not see
what it returned. -/
theorem clearNeverLosesCompletion : Obligations.ClearNeverLosesCompletion := by
  intro pin d m s t u demod mod ht hu
  have start := phaseHost_clearFlags (s := clearSignals s) demod mod d m
  have same : exec (.evClk pin) { s with hop := some (encode (.ctlClearFlags d m)) } =
      resWithResult 0 (exec (.evClk pin) { s with hop := none }) :=
    (congrArg (blockPhases pin) start).trans (blockPhases_ignoresResult pin 0 _)
  rw [same, ht] at hu
  cases hu
  exact ⟨rfl, rfl⟩

end clear

end Sys2Proof.Machine

/-! The encoding's family: the decoder and the encoder are inverse to each other (R80, R82), a word that is no
instruction's is refused (R85), and what each port does with a word of its class and of another (R81, R84). -/

namespace Sys2Proof

/-! ### Operands in their fields (R82) -/

/-- The low bits of a field are what their mask leaves of it. -/
theorem setWidth_extractLsb'_eq_and {m n : Nat} (x : BitVec m) :
    (x.extractLsb' 0 n).setWidth m = x &&& (BitVec.allOnes n).setWidth m := by
  ext k hk
  simp [BitVec.getLsbD_eq_getElem hk, Bool.and_comm]

/-- An operand zero-extended to its field sets no bit above its own width. -/
theorem setWidth_and_not_allOnes {m n : Nat} (x : BitVec n) :
    x.setWidth m &&& ~~~(BitVec.allOnes n).setWidth m = 0 := by
  ext k hk
  simpa using BitVec.lt_of_getLsbD

/-- A field that sets no bit outside a mask is what the mask leaves of it. -/
theorem and_eq_self_of_and_not_eq_zero {n : Nat} {x mask : BitVec n} (h : x &&& ~~~mask = 0) : x &&& mask = x := by
  calc x &&& mask = x &&& mask ||| x &&& ~~~mask := by rw [h, BitVec.ofNat_eq_ofNat, BitVec.or_zero]
    _ = x := by rw [← BitVec.and_or_distrib_left, BitVec.or_not_self, BitVec.and_allOnes]

theorem flagField_flagBit (w : Word) : flagField (flagBit w 0) = fieldF w &&& 1 :=
  BitVec.and_one_eq_setWidth_ofBool_getLsbD.symm

theorem flagBit_packWord (o : BitVec 8) (b : Bool) (x y : Half) :
    flagBit (packWord o (flagField b) x y) 0 = b := by
  rw [flagBit, fieldF_packWord]
  cases b <;> rfl

/-- The two flags of CTL_CLEAR_FLAGS, put back in F[1:0]. -/
theorem flagPair_flagBits (w : Word) :
    (BitVec.ofBool (flagBit w 1) ++ BitVec.ofBool (flagBit w 0)).setWidth 8 = fieldF w &&& 3 := by
  unfold flagBit
  generalize fieldF w = f
  revert f
  decide

theorem flagBits_packWord (o : BitVec 8) (d m : Bool) (x y : Half) :
    flagBit (packWord o ((BitVec.ofBool m ++ BitVec.ofBool d).setWidth 8) x y) 0 = d ∧
    flagBit (packWord o ((BitVec.ofBool m ++ BitVec.ofBool d).setWidth 8) x y) 1 = m := by
  rw [flagBit, flagBit, fieldF_packWord]
  revert d m
  decide

@[simp] theorem timerModeOfBit_timerModeBit (m : TimerMode) : timerModeOfBit (timerModeBit m) = m := by
  cases m <;> rfl

@[simp] theorem timerModeBit_timerModeOfBit (b : Bool) : timerModeBit (timerModeOfBit b) = b := by
  cases b <;> rfl

@[simp] theorem protocolOfBit_protocolBit (p : Protocol) : protocolOfBit (protocolBit p) = p := by
  cases p <;> rfl

@[simp] theorem protocolBit_protocolOfBit (b : Bool) : protocolBit (protocolOfBit b) = b := by
  cases b <;> rfl

/-! ### Every instruction is what its word decodes to (R80, R81, R82) -/

/-- In each row the packed operands leave the row's unused bits 0, and are read back from their fields. -/
theorem decode_encode (i : Instr) : decode (encode i) = .ok i := by
  have flag (b : Bool) : flagField b &&& 0xFE#8 = 0 := setWidth_and_not_allOnes _
  have twoBits (m : BitVec 2) : m.setWidth 8 &&& 0xFC#8 = 0 := setWidth_and_not_allOnes m
  have data (d : Byte) : d.setWidth 16 &&& 0xFF00#16 = 0 := setWidth_and_not_allOnes d
  have parity (v : Bool) : (BitVec.ofBool v).setWidth 16 &&& 0xFFFE#16 = 0 := setWidth_and_not_allOnes _
  cases i
  all_goals
    simp [encode, decode, ifUnusedZero_packWord, flag, twoBits, data, parity, flagBit_packWord, flagBits_packWord,
      BitVec.extractLsb'_setWidth_of_le]

theorem wordClass_encode (i : Instr) : wordClass (encode i) = some i.opClass := by
  cases i
  all_goals
    simp only [wordClass, encode, fieldOpc_packWord]
    rfl

theorem fieldR_encode (i : Instr) : fieldR (encode i) = 0 := by
  cases i <;> exact fieldR_packWord _ _ _ _

/-- Settles O2: the decoder's line of each row reads back what the encoder packed. -/
theorem decodeOfEncode : Obligations.DecodeOfEncode := fun i => ⟨decode_encode i, wordClass_encode i⟩

/-- Settles O1: each of the six words is the one the encoder gives its operation. -/
theorem mapWordsDecode : Obligations.MapWordsDecode :=
  ⟨decode_encode (.lcInit .typeF), decode_encode (.ctlArmReply true 14), decode_encode (.bufWrite 0 0x44),
    decode_encode (.tsScheduleNextSample 4 2), decode_encode (.tsSetSubcarrier 1 2),
    decode_encode (.evSampleTick true)⟩

/-! ### Everything the decoder can answer (R80, R82, R85) -/

/-- The opcodes of no class are the illegal ones of R85. -/
theorem opcodeClass_eq_none_iff (o : BitVec 8) :
    opcodeClass o = none ↔ o = 0x00 ∨ o = 0x0E ∨ o = 0x0F ∨ (0x14 ≤ o.toNat ∧ o.toNat ≤ 0x1F) ∨ o = 0x22 ∨
      0x2B ≤ o.toNat := by
  simp only [opcodeClass, Bool.and_eq_true, decide_eq_true_eq, bne_iff_ne]
  split_ifs <;> simp <;> bv_omega

/-- The decoder refuses an opcode of no class, or it runs the line of one row: the row is of the word's class, and its
instruction's word is the word's own fields without the unused bits. -/
theorem decode_cases (w : Word) :
    (wordClass w = none ∧ decode w = .error .illegalOpcode) ∨
    ∃ (i : Instr) (usedF : BitVec 8) (usedA usedB : Half), wordClass w = some i.opClass ∧
      encode i = packWord (fieldOpc w) (fieldF w &&& usedF) (fieldA w &&& usedA) (fieldB w &&& usedB) ∧
      decode w = ifUnusedZero w usedF usedA usedB i := by
  have whole (a : Half) : a &&& 0xFFFF#16 = a := BitVec.and_allOnes
  have mode (f : BitVec 8) : (f.extractLsb' 0 2).setWidth 8 = f &&& 0x03#8 := setWidth_extractLsb'_eq_and f
  have data (b : Half) : (b.extractLsb' 0 8).setWidth 16 = b &&& 0x00FF#16 := setWidth_extractLsb'_eq_and b
  have parity (b : Half) : (BitVec.ofBool b[0]).setWidth 16 = b &&& 0x0001#16 :=
    BitVec.and_one_eq_setWidth_ofBool_getLsbD.symm
  unfold wordClass decode
  dsimp only
  split
  case h_28 =>
    refine .inl ⟨?_, rfl⟩
    simp only [imp_false] at *
    rw [opcodeClass_eq_none_iff]
    bv_omega
  all_goals
    rename_i row
    have opc : fieldOpc w = BitVec.ofNat 8 _ := row ▸ (BitVec.ofNat_toNat ..).symm
    refine .inr ⟨_, _, _, _, ?_, ?_, rfl⟩
    · rw [opc]; rfl
    · rw [opc]; simp [encode, flagField_flagBit, flagPair_flagBits, whole, mode, data, parity]

theorem encode_of_decode {w : Word} {i : Instr} (h : decode w = .ok i) : encode i = w := by
  rcases decode_cases w with ⟨-, illegal⟩ | ⟨j, usedF, usedA, usedB, -, packed, row⟩
  · rw [illegal] at h; cases h
  · obtain ⟨rfl, hF, hA, hB, hR⟩ := ifUnusedZero_ok (row ▸ h)
    rw [packed, and_eq_self_of_and_not_eq_zero hF, and_eq_self_of_and_not_eq_zero hA,
      and_eq_self_of_and_not_eq_zero hB, packWord_fields hR]

/-- Settles O3: the row that lets a word through has its unused bits 0, so the word is its used bits packed. -/
theorem encodeOfDecode : Obligations.EncodeOfDecode := fun _ _ => encode_of_decode

theorem wordClass_of_decode {w : Word} {i : Instr} (h : decode w = .ok i) : wordClass w = some i.opClass := by
  rw [← encode_of_decode h, wordClass_encode]

/-- A word of a legal opcode that is no instruction's word has an unused bit set. -/
theorem decode_eq_reservedNonzero {w : Word} {c : OpClass} (legal : wordClass w = some c)
    (noInstr : ∀ i, encode i ≠ w) : decode w = .error .reservedNonzero := by
  rcases decode_cases w with ⟨illegal, -⟩ | ⟨i, usedF, usedA, usedB, -, -, row⟩
  · rw [illegal] at legal; cases legal
  · unfold ifUnusedZero at row
    split at row
    · exact absurd (encode_of_decode row) (noInstr i)
    · exact row

namespace Machine

/-! ### What the ports do with a word (R81, R84, R85) -/

section ports
variable {w : Word} {i : Instr} {s : State}

theorem recorded_eq_raiseFault (r : FaultReason) : s.recorded r w = raiseFault r w s := rfl

theorem hostWord_illegalOpcode (h : wordClass w = none) : hostWord w s = s.recorded .illegalOpcode w := by
  simp only [hostWord, h, recorded_eq_raiseFault]

theorem harnessPort_illegalOpcode (h : wordClass w = none) :
    harnessPort w s = .next (s.recorded .illegalOpcode w) := by
  simp only [harnessPort, h, recorded_eq_raiseFault]

theorem replayPort_illegalOpcode (h : wordClass w = none) :
    replayPort w s = .next (s.recorded .illegalOpcode w) := by
  simp only [replayPort, h, recorded_eq_raiseFault]

theorem hostWord_reservedNonzero (h : wordClass w = some .host) (noInstr : ∀ i, encode i ≠ w) :
    hostWord w s = s.recorded .reservedNonzero w := by
  simp only [hostWord, h, decode_eq_reservedNonzero h noInstr, recorded_eq_raiseFault]

theorem harnessPort_reservedNonzero (h : wordClass w = some .event) (noInstr : ∀ i, encode i ≠ w) :
    harnessPort w s = .next (s.recorded .reservedNonzero w) := by
  simp only [harnessPort, h, decode_eq_reservedNonzero h noInstr, recorded_eq_raiseFault]

theorem replayPort_reservedNonzero (h : wordClass w = some .internal) (noInstr : ∀ i, encode i ≠ w) :
    replayPort w s = .next (s.recorded .reservedNonzero w) := by
  simp only [replayPort, h, decode_eq_reservedNonzero h noInstr, recorded_eq_raiseFault]

theorem hostWord_notHostOp (h : wordClass w = some .internal ∨ wordClass w = some .event) :
    hostWord w s = s.recorded .notHostOp w := by
  rcases h with h | h <;> simp only [hostWord, h, recorded_eq_raiseFault]

theorem harnessPort_notHarnessOp (h : wordClass w = some .internal ∨ wordClass w = some .host) :
    harnessPort w s = .refused .notHarnessOp := by
  rcases h with h | h <;> simp only [harnessPort, h]

theorem replayPort_notReplayOp (h : wordClass w = some .event ∨ wordClass w = some .host) :
    replayPort w s = .refused .notReplayOp := by
  rcases h with h | h <;> simp only [replayPort, h]

theorem hostWord_of_decode (h : decode w = .ok i) (host : i.opClass = .host) :
    hostWord w s = hostOperation w i s := by
  simp only [hostWord, wordClass_of_decode h, host, h]

theorem harnessPort_of_decode (h : decode w = .ok i) (event : i.opClass = .event) :
    harnessPort w s = if harnessAccepts s.view i then exec i s else .refused .eventAtCycleLevel := by
  simp only [harnessPort, wordClass_of_decode h, event, h]

theorem replayPort_of_decode (h : decode w = .ok i) (internal : i.opClass = .internal) :
    replayPort w s = exec i s := by
  simp only [replayPort, wordClass_of_decode h, internal, h]

end ports

/-- Settles O4: an illegal opcode has no class, and a word of a class that is no instruction's does not decode. -/
theorem illegalWordsRefused : Obligations.IllegalWordsRefused := by
  intro w s
  constructor
  · intro opc
    have illegal : wordClass w = none := (opcodeClass_eq_none_iff _).2 opc
    exact ⟨hostWord_illegalOpcode illegal, harnessPort_illegalOpcode illegal, replayPort_illegalOpcode illegal⟩
  · intro unused
    have noInstr : ∀ i, encode i ≠ w := unused.elim (fun hR i e => hR (e ▸ fieldR_encode i)) id
    exact ⟨(hostWord_reservedNonzero · noInstr), (harnessPort_reservedNonzero · noInstr),
      (replayPort_reservedNonzero · noInstr)⟩

/-- Settles O5: the class of the opcode decides, and at the cycle level the harness port accepts EV_CLK only. -/
theorem wrongPortRefused : Obligations.WrongPortRefused := by
  intro w s
  refine ⟨hostWord_notHostOp, harnessPort_notHarnessOp, replayPort_notReplayOp, fun cycleLevel v => ?_⟩
  have refused {i : Instr} (event : i.opClass = .event) (h : harnessAccepts .cycleLevel i = false) :
      harnessPort (encode i) s = .refused .eventAtCycleLevel := by
    rw [harnessPort_of_decode (decode_encode i) event, cycleLevel, h]
    rfl
  exact ⟨refused rfl rfl, refused rfl rfl, refused rfl rfl⟩

/-! ### The operand checks of a replayed word (R83, R113) -/

/-- `t` is `s` but for the registers of the Timing Substrate and the last result. -/
def SubstrateOnly (s t : State) : Prop :=
  ∃ st mt edgeIe out result, t = { s with st := st, mt := mt, edgeIe := edgeIe, out := out, result := result }

/-- The word of `i` is refused with BAD_OPERAND if an operand is outside its form, and else writes the Timing
Substrate's registers only. -/
def OperandsChecked (i : Instr) (s : State) (o : Res) : Prop :=
  (i.wellFormed = false → o = .next (s.recorded .badOperand (encode i))) ∧
  (i.wellFormed = true → ∃ t, o = .next t ∧ SubstrateOnly s t)

theorem operandsChecked_replayed {i : Instr} {ok : Bool} {op : State → State} {s : State} (form : ok = i.wellFormed)
    (only : SubstrateOnly s (op s)) : OperandsChecked i s (replayed ok i op s) := by
  subst form
  constructor
  · intro bad; simp only [replayed, bad]; rfl
  · intro good; exact ⟨op s, by simp only [replayed, good]; rfl, only⟩

theorem operandsChecked_next {i : Instr} {s t : State} (form : i.wellFormed = true) (only : SubstrateOnly s t) :
    OperandsChecked i s (.next t) :=
  ⟨fun bad => absurd form (by simp [bad]), fun _ => ⟨t, rfl, only⟩⟩

/-- The mode is checked before the divider: code 3 has no meaning (R83). -/
theorem operandsChecked_tsSetSubcarrier (m : BitVec 2) (d : Half) (s : State) :
    OperandsChecked (.tsSetSubcarrier m d) s (execTsSetSubcarrier m d s) := by
  unfold execTsSetSubcarrier
  cases h : scModeOfCode m with
  | none =>
    obtain rfl := (scModeOfCode_none_iff m).1 h
    exact ⟨fun _ => rfl, fun good => by cases good⟩
  | some mode =>
    have hm : m ≠ 3 := fun three => by simp [(scModeOfCode_none_iff m).2 three] at h
    exact operandsChecked_replayed (by simp only [Instr.wellFormed, dividerOk, bne_iff_ne.2 hm, Bool.true_and])
      ⟨_, _, _, _, _, rfl⟩

theorem operandsChecked_exec {i : Instr} (internal : i.opClass = .internal) (s : State) :
    OperandsChecked i s (exec i s) := by
  cases i
  case tsArmSampling p => exact operandsChecked_replayed (periodOk_eq p) ⟨_, _, _, _, _, rfl⟩
  case tsScheduleNextSample p o => exact operandsChecked_replayed rfl ⟨_, _, _, _, _, rfl⟩
  case tsArmModulation m p =>
    exact operandsChecked_replayed (modArmOk_eq m p) ⟨_, _, _, _, _, armModulation_frame m p s⟩
  case tsSetModPeriod p => exact operandsChecked_replayed (periodOk_eq p) ⟨_, _, _, _, _, setModPeriod_frame p s⟩
  case tsSetSubcarrier m d => exact operandsChecked_tsSetSubcarrier m d s
  all_goals cases internal
  all_goals exact operandsChecked_next rfl ⟨_, _, _, _, _, rfl⟩

/-- Settles O14: an operation that passes its checks writes no register outside the Timing Substrate. -/
theorem internalOperandsChecked : Obligations.InternalOperandsChecked := by
  intro i s internal
  obtain ⟨bad, good⟩ := operandsChecked_exec internal s
  refine ⟨bad, fun form => ?_⟩
  obtain ⟨t, ht, st, mt, edgeIe, out, result, rfl⟩ := good form
  exact ⟨_, ht, rfl, rfl, rfl, rfl, rfl, rfl, rfl, rfl, rfl, rfl⟩

/-! ### A step runs the decoded instruction (R84, R100, R101) -/

section steps
variable {w : Word} {i : Instr} {s : State}

theorem step_of_inputs {x : Stimulus} {rest : List Stimulus} (h : s.inputs = x :: rest) :
    step s = takeInput x { s with inputs := rest } := by
  simp only [step, h]

/-- A HOST operation never looks at the word it came by: it is the meaning of the instruction. -/
theorem exec_eq_hostOperation (host : i.opClass = .host) (w : Word) (s : State) :
    exec i s = .next (hostOperation w i s) := by
  cases i <;> cases host <;> rfl

theorem exec_eq_hostWord (h : decode w = .ok i) (host : i.opClass = .host) (s : State) :
    exec i s = .next (hostWord w s) := by
  rw [hostWord_of_decode h host, exec_eq_hostOperation host w]

/-- Phase 1 of a cycle is the host operation on its port, and the other phases follow (R101). -/
theorem runCycle_of_decode (h : decode w = .ok i) (host : i.opClass = .host) (pin : Bool) (s : State) :
    runCycle pin (some w) s = andThen (exec i { s with sig := .clear, hop := none }) (blockPhases pin) := by
  rw [exec_eq_hostWord h host]
  rfl

theorem hostPort_of_decode_eventLevel (h : decode w = .ok i) (host : i.opClass = .host)
    (eventLevel : s.view = .eventLevel) (pin : Bool) :
    hostPort pin w s = andThen (exec i s) fun t => .next { t with sig := .clear } := by
  rw [exec_eq_hostWord h host]
  simp only [hostPort, eventLevel]
  rfl

theorem hostPort_of_decode_cycleLevel (h : decode w = .ok i) (host : i.opClass = .host)
    (cycleLevel : s.view = .cycleLevel) (pin : Bool) :
    hostPort pin w s = andThen (exec i { s with sig := .clear, hop := none }) (blockPhases pin) := by
  rw [← runCycle_of_decode h host]
  simp only [hostPort, cycleLevel]

theorem harnessAccepts_of_event (event : i.opClass = .event)
    (view : s.view = .eventLevel ∨ i = .evClk true ∨ i = .evClk false) : harnessAccepts s.view i = true := by
  rcases view with view | rfl | rfl
  · rw [view]; cases i <;> cases event <;> rfl
  · rfl
  · rfl

end steps

/-- Settles O48: a word that decodes is of its instruction's class, so its port looks at nothing else. -/
theorem stepRunsDecodedInstruction : Obligations.StepRunsDecodedInstruction := by
  intro w i rest s h
  refine ⟨fun next event view => ?_, fun next internal => ?_, fun next host eventLevel => ?_,
    fun next host cycleLevel => ?_, fun pin next host => ?_, fun pin next => ?_⟩ <;> rw [step_of_inputs next]
  · exact (harnessPort_of_decode h event).trans (if_pos (harnessAccepts_of_event event view))
  · exact replayPort_of_decode h internal
  · exact hostPort_of_decode_eventLevel (s := { s with inputs := rest }) h host eventLevel s.sense
  · exact hostPort_of_decode_cycleLevel (s := { s with inputs := rest }) h host cycleLevel s.sense
  · exact runCycle_of_decode h host pin _
  · rfl

end Machine

end Sys2Proof

/-! The Timing Substrate's family: the INTERNAL words of R110 to R123, the two timers and the subcarrier generator
(R104 to R108), and the cycles in which no handler runs, or none but the first sample (R100 to R102, R124). -/

namespace Sys2Proof.Machine

/-! ### The INTERNAL words (R110 to R123) -/

/-- A replayed word with legal operands is its operation (R83). -/
theorem replayed_of_ok {ok : Bool} (h : ok = true) (i : Instr) (op : State → State) (s : State) :
    replayed ok i op s = .next (op s) := if_pos h

theorem periodOk_of_le {p : Half} (h : 2 ≤ p.toNat) : periodOk p = true := decide_eq_true h

theorem offsetOk_of {p o : Half} (h : o.toNat < p.toNat ∨ o = 0xFFFF) : offsetOk p o = true := by
  rcases h with h | rfl
  · exact Bool.or_eq_true_iff.2 (.inl (decide_eq_true h))
  · exact Bool.or_eq_true_iff.2 (.inr rfl)

theorem dividerOk_of_pos {d : Half} (h : 1 ≤ d.toNat) : dividerOk d = true := by
  refine bne_iff_ne.2 fun zero => ?_
  rw [zero] at h
  exact absurd h (by decide)

theorem scModeOfCode_scModeCode (m : ScMode) : scModeOfCode (scModeCode m) = some m := by cases m <;> rfl

/-- Settles O11: a legal word is its operation, and the two forms of the arm differ in ST_FRESH only. -/
theorem samplingTimerWords : Obligations.SamplingTimerWords := by
  intro p o s
  have arm (hp : 2 ≤ p.toNat) : exec (.tsArmSampling p) s = .next (armSampling p s) :=
    replayed_of_ok (periodOk_of_le hp) _ _ s
  refine ⟨arm, fun hp => ⟨arm hp, rfl⟩, fun hp ho => ?_, rfl⟩
  exact replayed_of_ok (Bool.and_eq_true_iff.2 ⟨periodOk_of_le hp, offsetOk_of ho⟩) _ _ s

/-- Settles O12: a legal word is its operation, and the new period depends on the mode. -/
theorem modulationTimerWords : Obligations.ModulationTimerWords := by
  intro p b s
  have setPeriod (hp : 2 ≤ p.toNat) : exec (.tsSetModPeriod p) s = .next (setModPeriod p s) :=
    replayed_of_ok (periodOk_of_le hp) _ _ s
  refine ⟨rfl, fun hp => replayed_of_ok (periodOk_of_le hp) _ _ s, rfl, fun hp mode => ?_, fun hp mode => ?_, ?_⟩
  · rw [setPeriod hp, setModPeriod_of_measure p mode]
  · rw [setPeriod hp, setModPeriod_of_periodic p mode]
  · rw [BitVec.ofNat_add, BitVec.ofNat_toNat, BitVec.ofNat_toNat, BitVec.setWidth_eq, BitVec.setWidth_eq]
    rfl

/-- Settles O13: the code of a mode is read back as that mode, and the result of a read is SYNC2 as a word. -/
theorem outputInputAndEnableWords : Obligations.OutputInputAndEnableWords := by
  intro m d b s
  refine ⟨fun hd => ?_, rfl, ?_, rfl, rfl, rfl⟩
  · change execTsSetSubcarrier (scModeCode m) d s = _
    rw [execTsSetSubcarrier, scModeOfCode_scModeCode]
    exact replayed_of_ok (dividerOk_of_pos hd) _ _ s
  · have word : wordOfBit s.sync2 = if s.sync2 then 1 else 0 := by cases s.sync2 <;> rfl
    rw [← word]
    rfl

/-! ### Counting modulo a period (R104, R107) -/

/-- One more, while the remainder stays below the divisor. -/
theorem succ_div_mod_of_lt {k n : Nat} (h : k % n + 1 < n) : (k + 1) / n = k / n ∧ (k + 1) % n = k % n + 1 := by
  have := Nat.mod_add_div k n
  exact (Nat.div_mod_unique (by omega)).2 ⟨by omega, h⟩

/-- One more, when the remainder reaches the divisor. -/
theorem succ_div_mod_of_wrap {k n : Nat} (h : k % n + 1 = n) : (k + 1) / n = k / n + 1 ∧ (k + 1) % n = 0 := by
  have := Nat.mod_add_div k n
  exact (Nat.div_mod_unique (by omega)).2 ⟨by rw [Nat.mul_add]; omega, by omega⟩

/-! ### The Sampling Timer (R104, R105) -/

section samplingTimer
variable {s : State}

theorem countSampling_st_of_lt (h : s.st.cnt.toNat + 1 < s.st.per.toNat) :
    (countSampling s).st = { s.st with cnt := s.st.cnt + 1 } := by
  rw [countSampling, if_neg (by omega)]

/-- The wrap with no period pending (R104). -/
theorem countSampling_st_of_wrap (h : s.st.per.toNat ≤ s.st.cnt.toNat + 1) (empty : s.st.bufV = false) :
    (countSampling s).st = { s.st with cnt := 0 } := by
  rw [countSampling, if_pos h, loadSamplingBuffer, if_neg (by simp [empty])]

/-- The wrap that loads the buffered period (R105). -/
theorem countSampling_st_of_load (h : s.st.per.toNat ≤ s.st.cnt.toNat + 1) (pending : s.st.bufV = true) :
    (countSampling s).st = { s.st with cnt := 0, per := s.st.perBuf, cc := s.st.ccBuf, bufV := false } := by
  rw [countSampling, if_pos h, loadSamplingBuffer, if_pos pending]

/-- With no period pending the Sampling Timer's count after `k` counts from 0 is `k` modulo the period, and its other
registers stand (R104). -/
theorem countSampling_iterate_st (empty : s.st.bufV = false) (start : s.st.cnt = 0) (period : 0 < s.st.per.toNat)
    (k : Nat) : (countSampling^[k] s).st = { s.st with cnt := BitVec.ofNat 16 (k % s.st.per.toNat) } := by
  have room := s.st.per.isLt
  induction k with
  | zero => rw [Nat.zero_mod]; exact congrArg (fun c => { s.st with cnt := c }) start
  | succ k ih =>
    have below := Nat.mod_lt k period
    rw [Function.iterate_succ_apply']
    generalize countSampling^[k] s = t at *
    have cnt : t.st.cnt.toNat = k % s.st.per.toNat := by rw [ih, BitVec.toNat_ofNat]; omega
    have per : t.st.per = s.st.per := by rw [ih]
    by_cases h : k % s.st.per.toNat + 1 < s.st.per.toNat
    · rw [countSampling_st_of_lt (by rw [cnt, per]; exact h), ih, (succ_div_mod_of_lt h).2, BitVec.ofNat_add]
      rfl
    · have wraps : k % s.st.per.toNat + 1 = s.st.per.toNat := by omega
      rw [countSampling_st_of_wrap (by rw [cnt, per, wraps]) (by rw [ih]; exact empty), ih,
        (succ_div_mod_of_wrap wraps).2]
      rfl

/-- The Sampling Timer `k` counts after a period began at 0 with another buffered, until that one ends (R104, R105). -/
def State.gridTimer (s : State) (k : Nat) : SamplingTimer :=
  if k < s.st.per.toNat then { s.st with cnt := BitVec.ofNat 16 k }
  else { s.st with
    cnt := BitVec.ofNat 16 (k - s.st.per.toNat), per := s.st.perBuf, cc := s.st.ccBuf, bufV := false }

@[simp] theorem gridTimer_en (s : State) (k : Nat) : (s.gridTimer k).en = s.st.en := by
  unfold State.gridTimer
  split <;> rfl

@[simp] theorem gridTimer_sampleIe (s : State) (k : Nat) : (s.gridTimer k).sampleIe = s.st.sampleIe := by
  unfold State.gridTimer
  split <;> rfl

theorem gridTimer_zero (start : s.st.cnt = 0) (period : 0 < s.st.per.toNat) : s.gridTimer 0 = s.st := by
  rw [State.gridTimer, if_pos period]
  exact congrArg (fun c => { s.st with cnt := c }) start.symm

/-- A count takes the timer from one point of the grid to the next: within either period, or across the load. -/
theorem countSampling_gridTimer {t : State} {k : Nat} (pending : s.st.bufV = true) (st : t.st = s.gridTimer k)
    (inGrid : k + 1 < s.st.per.toNat + s.st.perBuf.toNat) : (countSampling t).st = s.gridTimer (k + 1) := by
  have per := s.st.per.isLt
  have perBuf := s.st.perBuf.isLt
  unfold State.gridTimer at *
  rcases Nat.lt_trichotomy (k + 1) s.st.per.toNat with first | load | second
  · rw [if_pos (by omega)] at st
    rw [if_pos first, countSampling_st_of_lt (by rw [st, BitVec.toNat_ofNat]; dsimp only; omega), st, BitVec.ofNat_add]
    rfl
  · rw [if_pos (by omega)] at st
    rw [if_neg (by omega), countSampling_st_of_load (by rw [st, BitVec.toNat_ofNat]; dsimp only; omega)
      (by rw [st]; exact pending), st, load, Nat.sub_self]
    rfl
  · rw [if_neg (by omega)] at st
    rw [if_neg (by omega), countSampling_st_of_lt (by rw [st, BitVec.toNat_ofNat]; dsimp only; omega), st,
      Nat.sub_add_comm (by omega), BitVec.ofNat_add]
    rfl

end samplingTimer

/-- Settles O15: by induction on the counts, each a step modulo the period. -/
theorem samplingTimerPeriod : Obligations.SamplingTimerPeriod := by
  intro k s empty start period
  have below := Nat.mod_lt k (show 0 < s.st.per.toNat by omega)
  have room := s.st.per.isLt
  rw [countSampling_iterate_st empty start (by omega) k]
  exact ⟨by rw [BitVec.toNat_ofNat]; omega, rfl, rfl⟩

/-! ### The Modulation Timer (R106) -/

section modTimer
variable {s : State}

theorem countModulation_of_measure (mode : s.mt.mode = .measure) :
    countModulation s = { s with mt := { s.mt with cnt := s.mt.cnt + 1 } } := by
  rw [countModulation, mode]

theorem countModulation_of_lt (mode : s.mt.mode = .periodic) (h : s.mt.cnt.toNat + 1 < s.mt.per.toNat) :
    countModulation s = { s with mt := { s.mt with cnt := s.mt.cnt + 1 } } := by
  rw [countModulation, mode]
  exact if_neg (by omega)

theorem countModulation_of_wrap (mode : s.mt.mode = .periodic) (h : s.mt.per.toNat ≤ s.mt.cnt.toNat + 1) :
    countModulation s = { s with mt := { s.mt with cnt := 0 }, sig := { s.sig with mtWrap := true } } := by
  rw [countModulation, mode]
  exact if_pos h

/-- MT_CNT after one count (R106). -/
theorem countModulation_cnt (s : State) : (countModulation s).mt.cnt =
    if s.mt.mode = .periodic ∧ s.mt.per.toNat ≤ s.mt.cnt.toNat + 1 then 0 else s.mt.cnt + 1 := by
  cases mode : s.mt.mode with
  | measure => simp [countModulation_of_measure mode]
  | periodic =>
    by_cases h : s.mt.per.toNat ≤ s.mt.cnt.toNat + 1
    · simp [countModulation_of_wrap mode h, h]
    · simp [countModulation_of_lt mode (by omega), h]

theorem modMatch_of_measure (mode : s.mt.mode = .measure) : s.modMatch = true ↔ s.mt.cnt = s.mt.cmp := by
  rw [State.modMatch, mode]
  exact beq_iff_eq

theorem modMatch_of_periodic (mode : s.mt.mode = .periodic) : s.modMatch = true ↔ s.sig.mtWrap = true := by
  rw [State.modMatch, mode]

end modTimer

/-- Settles O16: by the mode, and in PERIODIC mode by whether the period ends. -/
theorem modulationTimerCountAndMatch : Obligations.ModulationTimerCountAndMatch := fun _ =>
  ⟨fun mode => ⟨countModulation_of_measure mode, modMatch_of_measure mode⟩, modMatch_of_periodic,
    countModulation_of_lt, countModulation_of_wrap⟩

/-! ### The subcarrier generator and the antenna (R107, R108) -/

section subcarrier
variable {s : State}

/-- The generator's step as the statements write it from the rule (R107). -/
theorem subcarrierStep_eq (s : State) : subcarrierStep s = s.subcarrierStepped := by
  unfold subcarrierStep State.subcarrierStepped
  cases mode : s.out.scMode with
  | ook =>
    dsimp only
    by_cases h : s.out.scDiv.toNat ≤ s.out.scCnt.toNat + 1
    · rw [if_pos h, if_pos rfl, if_neg (by omega)]
    · rw [if_neg h, if_pos rfl, if_pos (by omega)]
  | off => rfl
  | direct => rfl

theorem subcarrierStep_of_ne_ook (mode : s.out.scMode ≠ .ook) :
    subcarrierStep s = { s with out := { s.out with scCnt := 0, scLvl := false } } := by
  rw [subcarrierStep_eq, State.subcarrierStepped, if_neg mode]

/-- A step in OOK mode counts modulo the divider and turns the level over at the wrap (R107). -/
theorem subcarrierStep_of_ook (mode : s.out.scMode = .ook) : (subcarrierStep s).out =
    if s.out.scCnt.toNat + 1 < s.out.scDiv.toNat then { s.out with scCnt := s.out.scCnt + 1 }
    else { s.out with scCnt := 0, scLvl := !s.out.scLvl } := by
  rw [subcarrierStep_eq, State.subcarrierStepped, if_pos mode]

/-- In OOK mode, after `k` steps from a fresh half-period: SC_CNT is `k` modulo the divider, and the level the parity of
the whole half-periods (R107). -/
theorem subcarrierStep_iterate (mode : s.out.scMode = .ook) (start : s.out.scCnt = 0) (low : s.out.scLvl = false)
    (divider : 0 < s.out.scDiv.toNat) (k : Nat) :
    (subcarrierStep^[k] s).out = { s.out with
      scCnt := BitVec.ofNat 16 (k % s.out.scDiv.toNat), scLvl := decide (k / s.out.scDiv.toNat % 2 = 1) } := by
  have room := s.out.scDiv.isLt
  induction k with
  | zero =>
    rw [Nat.zero_mod, Nat.zero_div]
    exact congrArg₂ (fun c l => { s.out with scCnt := c, scLvl := l }) start low
  | succ k ih =>
    have below := Nat.mod_lt k divider
    rw [Function.iterate_succ_apply']
    generalize subcarrierStep^[k] s = t at *
    have cnt : t.out.scCnt.toNat = k % s.out.scDiv.toNat := by rw [ih, BitVec.toNat_ofNat]; omega
    have div : t.out.scDiv = s.out.scDiv := by rw [ih]
    rw [subcarrierStep_of_ook (by rw [ih]; exact mode), cnt, div, ih]
    by_cases h : k % s.out.scDiv.toNat + 1 < s.out.scDiv.toNat
    · rw [if_pos h, (succ_div_mod_of_lt h).1, (succ_div_mod_of_lt h).2, BitVec.ofNat_add]
      rfl
    · have wraps : k % s.out.scDiv.toNat + 1 = s.out.scDiv.toNat := by omega
      have turn (q : Nat) : (!decide (q % 2 = 1)) = decide ((q + 1) % 2 = 1) := by
        rw [← decide_not, decide_eq_decide]; omega
      rw [if_neg h, (succ_div_mod_of_wrap wraps).1, (succ_div_mod_of_wrap wraps).2, ← turn]
      rfl

end subcarrier

/-- Settles O17: SC_OUT is the level, whose closed form counts the whole half-periods. -/
theorem subcarrierSquareWave : Obligations.SubcarrierSquareWave := by
  intro k s mode start low divider
  rw [State.scOut, subcarrierStep_iterate mode start low divider, mode]

/-- Settles O18: SC_OUT by the mode, and the antenna as the two outputs together. -/
theorem antennaLoad : Obligations.AntennaLoad := by
  intro s
  have off (mode : s.out.scMode = .off) : s.scOut = false := by rw [State.scOut, mode]
  refine ⟨rfl, rfl, fun mode => ⟨off mode, ?_⟩, fun mode => ?_, fun mode => ?_, subcarrierStep_of_ne_ook, ?_⟩
  · rw [State.ant, off mode, Bool.and_false]
  · rw [State.scOut, mode]
  · rw [State.scOut, mode]
  · rw [State.carriesSubcarrier, Bool.and_eq_true, bne_iff_ne]

/-- Settles O60: a block without a reply in flight has LOADMOD off, and with one its receiver is off (I1). -/
theorem loadOnlyDuringReply : Obligations.LoadOnlyDuringReply := by
  intro s h ant
  have loadmod : s.out.loadmod = true := (Bool.and_eq_true_iff.1 ant).1
  have replying : s.replying := fun idle => Bool.false_ne_true ((h.quiet idle).1.symm.trans loadmod)
  obtain ⟨oneDirection, doneExcludesReply, -⟩ := h.rules
  obtain ⟨complete, timerOff, -, edgeIe⟩ := oneDirection replying
  refine ⟨replying, ?_, complete, ?_, edgeIe, timerOff⟩
  · by_contra off
    obtain ⟨-, -, -, -, -, -, lm, -⟩ := h.off (Bool.eq_false_iff.2 off)
    exact replying (congrArg LoadMod.state lm)
  · exact Bool.eq_false_iff.2 fun done => doneExcludesReply ⟨done, replying⟩

/-! ### Events with no effect (R109, R175, R200, R283) -/

section events
variable {s : State}

theorem sampleTick_of_frameComplete (v : Bool) (h : s.dm.state = .frameComplete) : sampleTick v s = .next s := by
  rw [sampleTick, h]

theorem modTick_of_inert {l : BitVec 2} (h : s.lm.state = .outOfRange l ∨ s.lm.state = .idle) :
    modTick s = .next s := by
  rcases h with h | h <;> rw [modTick, h]

/-- Once the frame has begun, an edge that is let through only takes the enable back (R150). -/
theorem firstEdge_of_begun (h : s.dm.state ≠ .awaitingFieldEdge) : firstEdge s = setEdgeIrq false s := by
  have state : (setEdgeIrq false s).dm.state = s.dm.state := rfl
  unfold firstEdge
  dsimp only
  split
  · rename_i waiting; exact absurd (state.symm.trans waiting) h
  all_goals rfl

/-- Once the frame has begun, an edge changes no register of the Demodulator (R103, R175). -/
theorem onEdge_dm_of_begun (h : s.dm.state ≠ .awaitingFieldEdge) : (onEdge s).dm = s.dm := by
  have before : (captureOnEdge (restartOnEdge s)).dm = s.dm := by rw [captureOnEdge_frame, restartOnEdge_frame]
  unfold onEdge
  dsimp only
  split
  · rw [firstEdge_of_begun (by rw [before]; exact h)]; exact before
  · exact before

theorem execEvSampleTick_cases (v : Bool) (s : State) :
    (s.tickEnabled ∧ exec (.evSampleTick v) s = sampleTick v s) ∨
    (¬ s.tickEnabled ∧ exec (.evSampleTick v) s = .next s) := by
  have enables : (s.enabled && s.st.en && s.st.sampleIe) = true ↔ s.tickEnabled := by
    simp only [Bool.and_eq_true, and_assoc]
  by_cases h : s.tickEnabled
  · exact .inl ⟨h, if_pos (enables.2 h)⟩
  · exact .inr ⟨h, if_neg (mt enables.1 h)⟩

theorem execEvModTick_cases (s : State) :
    (s.modTickEnabled ∧ exec .evModTick s = modTick s) ∨ (¬ s.modTickEnabled ∧ exec .evModTick s = .next s) := by
  have enables : (s.enabled && s.mt.en && s.mt.modIe) = true ↔ s.modTickEnabled := by
    simp only [Bool.and_eq_true, and_assoc]
  by_cases h : s.modTickEnabled
  · exact .inl ⟨h, if_pos (enables.2 h)⟩
  · exact .inr ⟨h, if_neg (mt enables.1 h)⟩

end events

/-- Settles O21: an event runs its handler or nothing, and the handlers do nothing in the states named. -/
theorem eventsWithoutEffect : Obligations.EventsWithoutEffect := by
  intro v l s
  refine ⟨fun off => if_neg (Bool.eq_false_iff.1 off), fun h => ?_, fun h => ?_, fun complete => ?_,
    fun complete => ?_, fun inert => ?_⟩
  · exact ((execEvSampleTick_cases v s).resolve_left fun e => h e.1).2
  · exact ((execEvModTick_cases s).resolve_left fun e => h e.1).2
  · rcases execEvSampleTick_cases v s with ⟨-, e⟩ | ⟨-, e⟩
    · rw [e, sampleTick_of_frameComplete v complete]
    · exact e
  · change ∃ t, execEvEdge s = .next t ∧ _
    unfold execEvEdge
    split
    · refine ⟨_, rfl, onEdge_dm_of_begun (by rw [complete]; nofun), ?_⟩
      rw [onEdge_frame]
    · exact ⟨s, rfl, rfl, rfl⟩
  · rcases execEvModTick_cases s with ⟨-, e⟩ | ⟨-, e⟩
    · rw [e, modTick_of_inert inert]
    · exact e

/-! ### The synchroniser in every cycle (R33, R102) -/

/-- What no operation of the block writes: SYNC1, the cycle number, and what the model keeps for the outside world. -/
structure SameSurroundings (s t : State) : Prop where
  sync1 : t.sync1 = s.sync1
  cycle : t.cycle = s.cycle
  params : t.params = s.params
  inputs : t.inputs = s.inputs
  view : t.view = s.view
  task : t.task = s.task

theorem restart_surroundings (s : State) : SameSurroundings s (restart s) := by
  rw [restart_eq]
  exact ⟨rfl, rfl, rfl, rfl, rfl, rfl⟩

/-- No HOST operation writes the synchroniser or the cycle number (R241 to R250). -/
theorem hostOperation_surroundings (w : Word) (i : Instr) (s : State) : SameSurroundings s (hostOperation w i s) := by
  cases i
  case lcInit p =>
    simp only [hostOperation, hostLcInit]
    split
    · exact ⟨rfl, rfl, rfl, rfl, rfl, rfl⟩
    · exact { restart_surroundings { s with proto := p, enabled := true } with }
  case ctlRestartDemod =>
    simp only [hostOperation, hostCtlRestartDemod]
    split
    · exact { restart_surroundings s with }
    · exact ⟨rfl, rfl, rfl, rfl, rfl, rfl⟩
  case lcDeinit | ctlArmReply | bufRead | bufWrite | parRead | parWrite =>
    simp only [hostOperation, hostLcDeinit, hostCtlArmReply, hostBufRead, hostBufWrite, hostParRead, hostParWrite]
    split <;> exact ⟨rfl, rfl, rfl, rfl, rfl, rfl⟩
  all_goals exact ⟨rfl, rfl, rfl, rfl, rfl, rfl⟩

theorem phaseHost_surroundings (s : State) : SameSurroundings s (phaseHost s) := by
  unfold phaseHost
  split
  · exact ⟨rfl, rfl, rfl, rfl, rfl, rfl⟩
  · rename_i w _
    rcases hostWord_cases w { s with hop := none } with ⟨r, e⟩ | ⟨i, -, -, e⟩ <;> rw [e]
    · exact ⟨rfl, rfl, rfl, rfl, rfl, rfl⟩
    · exact { hostOperation_surroundings w i { s with hop := none } with }

/-- Phase 4 writes what a sample tick can write (R101). -/
theorem phaseSample_frame {s t : State} (h : phaseSample s = .next t) :
    t = { s with
      buf := t.buf, par := t.par, dm := t.dm, st := t.st, mt := t.mt, demodDone := t.demodDone } := by
  rcases phaseSample_cases h with rfl | ⟨-, -, -, -, tick⟩
  · rfl
  · exact sampleTick_frame tick

/-- Phase 5 writes what a modulation tick can write (R101). -/
theorem phaseMod_frame {s t : State} (h : phaseMod s = .next t) :
    t = { s with
      lm := { t.lm with txBits := s.lm.txBits, txOwnPar := s.lm.txOwnPar }
      out := t.out, mt := t.mt, modDone := t.modDone } := by
  rcases phaseMod_cases h with rfl | ⟨-, -, -, -, tick⟩
  · rfl
  · exact modTick_frame tick

/-- What phases 2 to 6 always write, and what they never do (R33, R102). -/
theorem blockPhases_surroundings {pin : Bool} {s t : State} (h : blockPhases pin s = .next t) :
    t.sync2 = s.sync1 ∧ t.sense = pin ∧
    SameSurroundings { s with sync1 := pin, cycle := s.cycle + 1 } t := by
  obtain ⟨a, b, sample, mod, rfl⟩ := blockPhases_cases h
  rw [subcarrierStep_frame, phaseMod_frame mod, phaseSample_frame sample, earlyPhases_frame]
  exact ⟨rfl, rfl, rfl, rfl, rfl, rfl, rfl, rfl⟩

/-- Settles O49: phase 1 leaves the synchroniser to phase 3, and the later phases leave it alone. -/
theorem synchroniserAlwaysShifts : Obligations.SynchroniserAlwaysShifts := by
  intro pin s t h
  obtain ⟨sync1, cycle, params, inputs, view, task⟩ := phaseHost_surroundings (clearSignals s)
  obtain ⟨sync2', sense', sync1', cycle', params', inputs', view', task'⟩ := blockPhases_surroundings h
  exact ⟨sync2'.trans sync1, sync1', sense', cycle'.trans (congrArg (· + 1) cycle), params'.trans params,
    inputs'.trans inputs, view'.trans view, task'.trans task⟩

/-! ### Cycles without an edge (R100, R101) -/

section quiet
variable {s : State}

/-- R104, R105 in phase 2: the Sampling Timer's half. -/
theorem phaseCountSampling_frame (s : State) : phaseCountSampling s =
    { s with st := (phaseCountSampling s).st, sig := (phaseCountSampling s).sig } := by
  unfold phaseCountSampling
  split
  · exact countSampling_frame s
  · rfl

/-- R106 in phase 2: the Modulation Timer's half. -/
theorem phaseCountModulation_frame (s : State) : phaseCountModulation s =
    { s with mt := { s.mt with cnt := (phaseCountModulation s).mt.cnt }, sig := (phaseCountModulation s).sig } := by
  unfold phaseCountModulation
  split
  · exact countModulation_frame s
  · rfl

/-- MT_CNT after phase 2 (R101, R106). -/
theorem phaseCountModulation_cnt (on : s.enabled = true) : (phaseCountModulation s).mt.cnt =
    if s.mt.en = false then s.mt.cnt
    else if s.mt.mode = .periodic ∧ s.mt.per.toNat ≤ s.mt.cnt.toNat + 1 then 0
    else s.mt.cnt + 1 := by
  unfold phaseCountModulation
  cases en : s.mt.en with
  | false => simp
  | true => simp [on, countModulation_cnt]

/-- The Sampling Timer after phase 2 of a cycle that has not armed it (R101, R104, R105). -/
theorem phaseCountSampling_st (on : s.enabled = true) (notFresh : s.sig.stFresh = false) :
    (phaseCountSampling s).st = if s.st.en = false then s.st
      else if s.st.cnt.toNat + 1 < s.st.per.toNat then { s.st with cnt := s.st.cnt + 1 }
      else if s.st.bufV = true then { s.st with cnt := 0, per := s.st.perBuf, cc := s.st.ccBuf, bufV := false }
      else { s.st with cnt := 0 } := by
  by_cases en : s.st.en = false
  · rw [if_pos en, phaseCountSampling, if_neg (by simp [en])]
  · have counts : phaseCountSampling s = countSampling s := if_pos (by simp [on, en, notFresh])
    rw [counts, if_neg en]
    split
    · exact countSampling_st_of_lt ‹_›
    · split
      · exact countSampling_st_of_load (by omega) ‹_›
      · exact countSampling_st_of_wrap (by omega) (Bool.eq_false_iff.2 ‹_›)

/-- The state after phases 2 and 3 of a cycle without an edge: the timers have counted and the synchroniser has
shifted. -/
def State.afterCounts (s : State) (pin : Bool) : State :=
  shiftSync pin (phaseCountModulation (phaseCountSampling s))

theorem afterCounts_frame (pin : Bool) (s : State) : s.afterCounts pin = { s with
    st := (phaseCountSampling s).st, mt := { s.mt with cnt := (s.afterCounts pin).mt.cnt }
    sig := (s.afterCounts pin).sig, sense := pin, sync1 := pin, sync2 := s.sync1 } := by
  rw [State.afterCounts, phaseCountModulation_frame, phaseCountSampling_frame]
  rfl

theorem earlyPhases_of_noEdge (pin : Bool) (noEdge : s.enabled = true → s.sync2 = true → s.sync1 = true) :
    earlyPhases pin s = s.afterCounts pin := by
  have counted : phaseCountModulation (phaseCountSampling s) = { s with
      st := (phaseCountModulation (phaseCountSampling s)).st
      mt := (phaseCountModulation (phaseCountSampling s)).mt
      sig := (phaseCountModulation (phaseCountSampling s)).sig } := by
    rw [phaseCountModulation_frame, phaseCountSampling_frame]
  refine if_neg fun edge => ?_
  rw [counted] at edge
  simp only [shiftSync_enabled, shiftSync_sync2, Bool.and_eq_true, Bool.not_eq_true'] at edge
  obtain ⟨on, high, low⟩ := edge
  exact Bool.false_ne_true (low.symm.trans (noEdge on high))

theorem phaseSample_of_off (h : s.st.sampleIe = false) : phaseSample s = .next s := if_neg (by simp [h])

theorem phaseMod_of_off (h : s.mt.modIe = false) : phaseMod s = .next s := if_neg (by simp [h])

/-- A cycle with no host word, no edge and no modulation tick: the timers count, phase 4 may take a sample, and the
subcarrier generator steps (R101). -/
theorem cycle_of_noEdge {pin : Bool} {a : State} (silent : s.betweenCycles)
    (noEdge : s.enabled = true → s.sync2 = true → s.sync1 = true)
    (sample : phaseSample (s.afterCounts pin) = .next a) (noTick : a.mt.modIe = false) :
    cycle pin s = .next (endCycle (subcarrierStep a)) := by
  obtain ⟨sig, hop⟩ := silent
  have clear : clearSignals s = s := by rw [clearSignals, ← sig]
  have host : phaseHost s = s := by rw [phaseHost, hop]
  rw [cycle, clear, host, blockPhases, earlyPhases_of_noEdge pin noEdge, sample, andThen_next, phaseMod_of_off noTick,
    andThen_next]

/-- A cycle in which no handler runs, register by register: phase 4 takes no sample either (R101). -/
theorem cycle_of_noHandler {pin : Bool} (silent : s.betweenCycles)
    (noEdge : s.enabled = true → s.sync2 = true → s.sync1 = true)
    (noSample : phaseSample (s.afterCounts pin) = .next (s.afterCounts pin)) (noTick : s.mt.modIe = false) :
    cycle pin s = .next { s with
      st := (phaseCountSampling s).st
      mt := { s.mt with cnt := (phaseCountModulation (phaseCountSampling s)).mt.cnt }
      out := s.subcarrierStepped.out
      sense := pin, sync1 := pin, sync2 := s.sync1, cycle := s.cycle + 1 } := by
  rw [cycle_of_noEdge silent noEdge noSample (by rw [afterCounts_frame]; exact noTick), afterCounts_frame,
    subcarrierStep_eq, endCycle, clearSignals, ← silent.1]
  rfl

end quiet

/-- Settles O50: a block that is off has no timer that counts, no enable and no edge, and its generator is at rest. -/
theorem offStateOnlyShifts : Obligations.OffStateOnlyShifts := by
  intro pin s off por silent
  obtain ⟨-, st, mt, -, out, -⟩ := por off
  have still : phaseCountModulation (phaseCountSampling s) = s ∧ phaseCountSampling s = s := by
    simp [phaseCountSampling, phaseCountModulation, off]
  have sampleIe : (s.afterCounts pin).st.sampleIe = false := by
    rw [State.afterCounts, still.1]; exact congrArg SamplingTimer.sampleIe st
  have generator : s.subcarrierStepped.out = s.out := by rw [State.subcarrierStepped, out]; rfl
  refine (cycle_of_noHandler silent (by simp [off]) (phaseSample_of_off sampleIe) (congrArg ModTimer.modIe mt)).trans ?_
  rw [still.1, still.2, generator]

/-- Settles O53: with both enables off phases 4 and 5 do nothing, so the counts and the generator are all. -/
theorem quietCycleOnlyCounts : Obligations.QuietCycleOnlyCounts := by
  intro pin s on silent sampleIe modIe noEdge
  have st := phaseCountSampling_st on (congrArg CycleSignals.stFresh silent.1)
  have noSample : (s.afterCounts pin).st.sampleIe = false := by
    rw [afterCounts_frame, st]
    split_ifs <;> exact sampleIe
  refine ⟨_, cycle_of_noHandler silent (fun _ high => noEdge.resolve_left (by simp [high]))
    (phaseSample_of_off noSample) modIe, rfl, st, ?_⟩
  have frame := phaseCountSampling_frame s
  generalize phaseCountSampling s = u at *
  exact (phaseCountModulation_cnt (by rw [frame]; exact on)).trans (by rw [frame])

/-! ### The first sample of the grid (R124)

The cycles after a first edge, up to the first sample, are cycles in which no handler runs: the Sampling Timer ends the
period it was armed with, loads the buffered one, and reaches its compare value. -/

section grid
variable {s t : State}

theorem andThen_andThen (o : Res) (f g : State → Res) :
    andThen (andThen o f) g = andThen o fun s => andThen (f s) g := by
  cases o <;> rfl

theorem cyclesWith_append (l m : List Bool) (s : State) :
    cyclesWith (l ++ m) s = andThen (cyclesWith l s) (cyclesWith m) := by
  induction l generalizing s with
  | nil => rfl
  | cons pin l ih =>
    have later : (fun t => cyclesWith (l ++ m) t) = fun t => andThen (cyclesWith l t) (cyclesWith m) := funext ih
    rw [List.cons_append, cyclesWith, cyclesWith, andThen_andThen, ← later]

theorem cyclesWith_append_singleton {l : List Bool} (run : cyclesWith l s = .next t) (pin : Bool) :
    cyclesWith (l ++ [pin]) s = cycle pin t := by
  rw [cyclesWith_append, run, andThen_next, cyclesWith]
  cases cycle pin t <;> rfl

/-- A sample that neither fills the window nor ends the frame is only shifted in (R160, R161). -/
theorem sampleTick_of_openWindow {v : Bool} (receiving : s.sampling) (opens : (s.dm.ssrLen + 1).toNat ≠ s.spb)
    (active : (shiftSample v s).dm.idleCnt.toNat < s.nIdle.toNat) : sampleTick v s = .next (shiftSample v s) := by
  have len : (shiftSample v s).dm.ssrLen.toNat ≠ (shiftSample v s).spb := opens
  have state : (shiftSample v s).dm.state = s.dm.state := rfl
  have noEnd : inactivityTest (shiftSample v s) = shiftSample v s := by
    have idle : ¬ (shiftSample v s).nIdle.toNat ≤ (shiftSample v s).dm.idleCnt.toNat := Nat.not_le.2 active
    rcases receiving with h | h <;> rw [inactivityTest, state, h] <;> exact if_neg idle
  rcases receiving with h | h <;> rw [sampleTick, h] <;> exact (if_neg len).trans (by rw [noEnd])

/-- The first sample of a window, with no inactivity counted (R160, R161). -/
theorem shiftSample_dm_first (v : Bool) (len : s.dm.ssrLen = 0) (idle : s.dm.idleCnt = 0) :
    (shiftSample v s).dm = { s.dm with
      ssr := s.dm.ssr <<< 1 ||| (if v then 0 else 1), ssrLen := 1, idleCnt := if v then 1 else 0 } := by
  rw [shiftSample, len, idle]
  cases v <;> rfl

/-- The block has just been armed for a grid: its timer begins a period in which nothing matches, another period is
buffered, and only sample ticks are enabled. -/
structure State.GridArmed (s : State) : Prop where
  on : s.enabled = true
  between : s.betweenCycles
  timerOn : s.st.en = true
  sampleIe : s.st.sampleIe = true
  noTick : s.mt.modIe = false
  start : s.st.cnt = 0
  period : 0 < s.st.per.toNat
  noSample : s.st.cc = noMatch
  pending : s.st.bufV = true
  offset : s.st.ccBuf.toNat < s.st.perBuf.toNat

/-- `t` stands `k` cycles after `s`, no handler having run and no edge being due. -/
structure OnGrid (s : State) (k : Nat) (t : State) : Prop where
  frame : t = { s with
    st := s.gridTimer k, mt := t.mt, out := t.out, sense := t.sense, sync1 := t.sync1, sync2 := t.sync2
    cycle := t.cycle }
  noTick : t.mt.modIe = false
  noEdge : t.sync2 = true → t.sync1 = true

/-- On the grid the compare matches once, CC_SLOT into the second period (R101, R110). -/
theorem sampleMatch_gridTimer (armed : s.GridArmed) {k : Nat} (st : t.st = s.gridTimer k)
    (inGrid : k < s.st.per.toNat + s.st.perBuf.toNat) :
    t.sampleMatch = true ↔ k = s.st.per.toNat + s.st.ccBuf.toNat := by
  have perBuf := s.st.perBuf.isLt
  have offset := armed.offset
  rw [State.sampleMatch, st, State.gridTimer]
  split
  · simp only [armed.noSample, bne_self_eq_false, Bool.false_and, Bool.false_eq_true, false_iff]
    omega
  · have offsetIsSet : s.st.ccBuf ≠ noMatch := by unfold noMatch; bv_omega
    simp only [Bool.and_eq_true, bne_iff_ne, beq_iff_eq, ne_eq, offsetIsSet, not_false_eq_true, true_and,
      ← BitVec.toNat_inj, BitVec.toNat_ofNat]
    omega

variable {k : Nat} {pin : Bool}

/-- The timer in the next cycle on the grid, when phase 4 comes. -/
theorem OnGrid.phaseCountSampling_st (h : OnGrid s k t) (armed : s.GridArmed)
    (inGrid : k + 1 < s.st.per.toNat + s.st.perBuf.toNat) : (phaseCountSampling t).st = s.gridTimer (k + 1) := by
  have st : t.st = s.gridTimer k := by rw [h.frame]
  have runs : (t.enabled && t.st.en && !t.sig.stFresh) = true := by
    rw [st, gridTimer_en, armed.timerOn, h.frame, armed.on, armed.between.1]
    rfl
  rw [phaseCountSampling, if_pos runs]
  exact countSampling_gridTimer armed.pending st inGrid

/-- Before the match no handler runs in a cycle on the grid. -/
theorem OnGrid.cycle_silent (h : OnGrid s k t) (armed : s.GridArmed)
    (before : k + 1 < s.st.per.toNat + s.st.ccBuf.toNat) (steady : t.sync1 = true → pin = true) :
    ∃ u, cycle pin t = .next u ∧ OnGrid s (k + 1) u ∧ u.sync1 = pin := by
  have inGrid : k + 1 < s.st.per.toNat + s.st.perBuf.toNat := by have := armed.offset; omega
  have st := h.phaseCountSampling_st armed inGrid
  have noHit : ¬ (t.afterCounts pin).sampleMatch = true := fun hit =>
    before.ne ((sampleMatch_gridTimer armed (by rw [afterCounts_frame]; exact st) inGrid).1 hit)
  have between : t.betweenCycles := by rw [h.frame]; exact armed.between
  refine ⟨_, cycle_of_noHandler between (fun _ => h.noEdge) (if_neg (by simp [noHit])) h.noTick,
    ⟨?_, h.noTick, steady⟩, rfl⟩
  rw [st, h.frame]

/-- In the cycle of the match the level that SYNC1 had is sampled, if that neither fills the window nor ends the
frame. -/
theorem OnGrid.cycle_sample (h : OnGrid s k t) (armed : s.GridArmed)
    (due : k + 1 = s.st.per.toNat + s.st.ccBuf.toNat) (receiving : s.sampling)
    (opens : (s.dm.ssrLen + 1).toNat ≠ s.spb)
    (active : (shiftSample t.sync1 s).dm.idleCnt.toNat < s.nIdle.toNat) :
    ∃ u, cycle pin t = .next u ∧ u.dm = (shiftSample t.sync1 s).dm := by
  have inGrid : k + 1 < s.st.per.toNat + s.st.perBuf.toNat := by have := armed.offset; omega
  have between : t.betweenCycles := by rw [h.frame]; exact armed.between
  have st := h.phaseCountSampling_st armed inGrid
  have counted : t.afterCounts pin = { s with
      st := s.gridTimer (k + 1), mt := (t.afterCounts pin).mt, out := (t.afterCounts pin).out
      sig := (t.afterCounts pin).sig, sense := pin, sync1 := pin, sync2 := t.sync1
      cycle := (t.afterCounts pin).cycle } := by
    rw [afterCounts_frame, st, h.frame]
  have noTick : (t.afterCounts pin).mt.modIe = false := by rw [afterCounts_frame]; exact h.noTick
  have run {a : State} := cycle_of_noEdge (pin := pin) (a := a) between fun _ => h.noEdge
  generalize t.afterCounts pin = u at *
  have fires : (u.enabled && u.st.en && u.st.sampleIe && u.sampleMatch) = true := by
    rw [(sampleMatch_gridTimer armed (by rw [counted]) inGrid).2 due, counted]
    simp [armed.on, armed.timerOn, armed.sampleIe]
  have shifted : (shiftSample t.sync1 u).dm = (shiftSample t.sync1 s).dm := by rw [counted]; rfl
  have sample : phaseSample u = .next (shiftSample t.sync1 u) := by
    have level : u.readInput = t.sync1 := by rw [counted]; rfl
    rw [phaseSample, if_pos fires, level]
    refine sampleTick_of_openWindow ?_ ?_ ?_
    · rw [counted]; exact receiving
    · rw [counted]; exact opens
    · rw [shifted, counted]; exact active
  refine ⟨_, run sample noTick, ?_⟩
  rw [subcarrierStep_frame]
  exact shifted

/-- The cycles before the match, with a pin that has fallen and may rise once. -/
theorem cyclesWith_onGrid (armed : s.GridArmed) (low : s.sync2 = false) (l : List Bool)
    (before : l.length < s.st.per.toNat + s.st.ccBuf.toNat)
    (steady : (s.sync1 :: l).Pairwise fun a b => a = true → b = true) :
    ∃ t, cyclesWith l s = .next t ∧ OnGrid s l.length t ∧ (s.sync1 :: l).getLast? = some t.sync1 := by
  induction l using List.reverseRecOn with
  | nil =>
    have frame := congrArg (fun st => { s with st := st }) (gridTimer_zero armed.start armed.period).symm
    exact ⟨s, rfl, ⟨frame, armed.noTick, by simp [low]⟩, rfl⟩
  | append_singleton l pin ih =>
    rw [List.length_append, List.length_singleton] at *
    rw [← List.cons_append] at steady
    obtain ⟨earlier, -, last⟩ := List.pairwise_append.1 steady
    obtain ⟨t, run, grid, sync1⟩ := ih (by omega) earlier
    obtain ⟨u, ran, grid', sync1'⟩ := grid.cycle_silent armed before
      (last t.sync1 (List.mem_of_getLast? sync1) pin (List.mem_singleton_self pin))
    refine ⟨u, (cyclesWith_append_singleton run pin).trans ran, grid', ?_⟩
    rw [← List.cons_append, List.getLast?_concat, sync1']

end grid

/-- Settles O55: the grid begins in the cycle of the edge, and its one match is CC_SLOT into the slot after T_BIT. -/
theorem firstSampleOfTheGrid : Obligations.FirstSampleOfTheGrid := by
  intro pins s inv on typeA state len idle start per noSample pending perBuf ccBuf low total steady
  obtain ⟨-, ⟨-, tBit, -⟩, ⟨ccSlot, -⟩, -, -, nIdle, -⟩ := inv.paramsValid
  obtain ⟨oneDirection, -, -, samplingArmed, -⟩ := inv.rules
  obtain ⟨timerOn, sampleIe, -⟩ := samplingArmed (.inl state)
  have lmIdle : s.lm.state = .idle := by
    by_contra replying
    exact absurd (state.symm.trans (oneDirection replying).1) (by decide)
  have armed : s.GridArmed :=
    { on := on, between := inv.between, timerOn := timerOn, sampleIe := sampleIe
      noTick := (inv.modTimer.1 lmIdle).1, start := start, period := by rw [per]; omega, noSample := noSample
      pending := pending, offset := by rw [perBuf, ccBuf]; exact ccSlot }
  have due : pins.length = s.st.per.toNat + s.st.ccBuf.toNat := by rw [total, per, ccBuf]
  have nonempty : pins ≠ [] := List.ne_nil_of_length_pos (by omega)
  have length := List.length_dropLast (xs := pins)
  constructor
  · intro k before
    have early : pins.take k <+: pins.dropLast := by
      rw [List.dropLast_eq_take]; exact List.take_prefix_take_left (by omega)
    obtain ⟨t, run, grid, -⟩ := cyclesWith_onGrid armed low (pins.take k) (by rw [List.length_take]; omega)
      (steady.sublist (early.sublist.cons_cons _))
    exact ⟨t, run, by rw [grid.frame]⟩
  · obtain ⟨t, run, grid, sync1⟩ := cyclesWith_onGrid armed low pins.dropLast (by omega) steady
    have level : pins.dropLast.getLast? = some t.sync1 := by
      rwa [List.getLast?_cons_of_ne_nil (List.ne_nil_of_length_pos (by omega))] at sync1
    have first := shiftSample_dm_first t.sync1 len idle
    have spb : s.spb = 2 := by rw [State.spb, typeA]; rfl
    have active : (shiftSample t.sync1 s).dm.idleCnt.toNat < s.nIdle.toNat := by
      have idleA : s.nIdle = s.params.nIdleA := by rw [State.nIdle, typeA]
      have small : (if t.sync1 then 1 else 0 : BitVec 8).toNat ≤ 1 := by cases t.sync1 <;> decide
      rw [first, idleA]
      exact small.trans_lt (by omega)
    obtain ⟨u, ran, sampled⟩ := grid.cycle_sample (pin := pins.getLast nonempty) armed (by omega) (.inl state)
      (by rw [len, spb]; decide) active
    refine ⟨u, t.sync1, ?_, level, ?_⟩
    · rw [← List.dropLast_append_getLast nonempty]
      exact (cyclesWith_append_singleton run _).trans ran
    · exact sampled.trans first

end Sys2Proof.Machine

/-! The Demodulator's family: the edges (R150, R151), the classifiers of the sample window (R162 to R164), the sample
tick in each of its cases (R160 to R174), and the reception of a whole Type A frame (R177). -/

namespace Sys2Proof.Machine

/-! ### Edges (R103, R150, R151) -/

section edges
variable {s : State}

/-- The state after what every edge does: the restart of the Sampling Timer, and the capture of the MEASURE count
(R103). -/
def State.relocked (s : State) : State := { s with
  st := s.timerAfterEdge
  mt := if s.mt.en = true ∧ s.mt.mode = .measure ∧ s.mt.capEn = true then { s.mt with cap := s.mt.cnt } else s.mt }

theorem restartOnEdge_eq (s : State) : restartOnEdge s = { s with st := s.timerAfterEdge } := by
  unfold restartOnEdge loadSamplingBuffer State.timerAfterEdge
  simp only [Bool.and_eq_true]
  split
  · split <;> rfl
  · rfl

theorem captureOnEdge_eq (s : State) : captureOnEdge s = { s with
    mt := if s.mt.en = true ∧ s.mt.mode = .measure ∧ s.mt.capEn = true then
      { s.mt with cap := s.mt.cnt } else s.mt } := by
  unfold captureOnEdge
  simp only [Bool.and_eq_true, beq_iff_eq, and_assoc]
  split <;> rfl

theorem captureOnEdge_restartOnEdge (s : State) : captureOnEdge (restartOnEdge s) = s.relocked := by
  rw [captureOnEdge_eq, restartOnEdge_eq, State.relocked]

/-- R103: an edge runs first_edge if EDGE_IE is set, and no handler if not. -/
theorem onEdge_eq (s : State) : onEdge s = if s.edgeIe then firstEdge s.relocked else s.relocked := by
  rw [onEdge, captureOnEdge_restartOnEdge]
  rfl

theorem exec_evEdge (on : s.enabled = true) : exec .evEdge s = .next (onEdge s) := if_pos on

/-- R150, register by register. -/
theorem firstEdge_of_waiting (waiting : s.dm.state = .awaitingFieldEdge) : firstEdge s = { s with
    edgeIe := false
    st := { s.st with bufV := true, sampleIe := true, perBuf := s.tSlot, ccBuf := s.params.ccSlot }
    mt := { s.mt with en := true, mode := .measure, cnt := 0, per := 0xFFFF, cmp := 0, cap := 0, capEn := true }
    dm := { state := .samplingDataBit, ssr := 0, ssrLen := 0, idleCnt := 0, bitCount := 0, parCount := 0,
            lastBit := false, prevBit := false, lastKind := .none, errCause := .none } } := by
  have state : (setEdgeIrq false s).dm.state = .awaitingFieldEdge := waiting
  rw [firstEdge]
  simp only [state]
  rfl

/-- At the first edge the capture leaves nothing behind, as arming the Modulation Timer clears MT_CAP (R113, R150). -/
theorem firstEdge_relocked (waiting : s.dm.state = .awaitingFieldEdge) : firstEdge s.relocked = { s with
    edgeIe := false
    st := { s.timerAfterEdge with bufV := true, sampleIe := true, perBuf := s.tSlot, ccBuf := s.params.ccSlot }
    mt := { s.mt with en := true, mode := .measure, cnt := 0, per := 0xFFFF, cmp := 0, cap := 0, capEn := true }
    dm := { state := .samplingDataBit, ssr := 0, ssrLen := 0, idleCnt := 0, bitCount := 0, parCount := 0,
            lastBit := false, prevBit := false, lastKind := .none, errCause := .none } } := by
  rw [firstEdge_of_waiting (s := s.relocked) waiting, State.relocked]
  dsimp only
  split <;> rfl

end edges

/-- Settles O19: the restart and the capture of every edge, and then first_edge. -/
theorem firstEdgeStartsFrame : Obligations.FirstEdgeStartsFrame := by
  intro s on armed
  rw [exec_evEdge on, onEdge_eq, if_pos armed]
  constructor
  · intro waiting
    rw [firstEdge_relocked waiting]
    rfl
  · intro begun
    rw [firstEdge_of_begun (s := s.relocked) begun]
    rfl

/-- Settles O20: with EDGE_IE = 0 an edge is the restart and the capture. -/
theorem laterEdgeOnlyRelocks : Obligations.LaterEdgeOnlyRelocks := by
  intro s on off
  rw [exec_evEdge on, onEdge_eq, if_neg (Bool.eq_false_iff.1 off), State.relocked]

/-! ### The classifiers (R161 to R164) -/

section classifiers
variable {s : State} {ssr : BitVec 8} {spb n : Nat} {v : Bool}

/-- The first `n` samples of a window stand in its highest bits (R161). -/
theorem samplesAll_first_iff :
    samplesAll ssr spb 0 n v = true ↔ ∀ i < n, ssr.getLsbD (spb - 1 - i) = v := by
  simp [samplesAll, windowSample]

/-- The last `n` samples of a window stand in its lowest bits (R161). -/
theorem samplesAll_last_iff (h : n ≤ spb) :
    samplesAll ssr spb (spb - n) n v = true ↔ ∀ i < n, ssr.getLsbD i = v := by
  have mirror (i : Nat) (hi : i < n) : spb - 1 - (spb - n + i) = n - 1 - i := by omega
  simp only [samplesAll, windowSample, List.all_eq_true, List.mem_range, beq_iff_eq]
  constructor
  · intro all i hi
    have := all (n - 1 - i) (by omega)
    rwa [mirror _ (by omega), show n - 1 - (n - 1 - i) = i by omega] at this
  · intro all i hi
    rw [mirror i hi]
    exact all _ (by omega)

theorem samplesAll_iff : samplesAll ssr spb 0 spb v = true ↔ ∀ i < spb, ssr.getLsbD i = v := by
  simpa using samplesAll_last_iff (ssr := ssr) (v := v) (le_refl spb)

theorem classify_typeA (hA : s.proto = .typeA) : s.classify = classifyA s.dm.ssr s.dm.lastBit := by
  rw [State.classify, hA]

theorem classify_manchester (hF : s.proto = .typeF) (hc : s.params.fCode = .manchester) :
    s.classify = classifyManchester s.params s.dm.ssr := by
  rw [State.classify, hF, hc]

theorem classify_nrz (hF : s.proto = .typeF) (hc : s.params.fCode = .nrz) :
    s.classify = classifyNrz s.params s.dm.ssr := by
  rw [State.classify, hF, hc]

end classifiers

/-- Settles O22: w_0 is SSR[1] and w_1 is SSR[0], and each row of the table is a case of the classifier. -/
theorem millerTable : Obligations.MillerTable := by
  intro s hA
  have first : windowSample s.dm.ssr Config.spbA 0 = s.dm.ssr.getLsbD 1 := rfl
  have second : windowSample s.dm.ssr Config.spbA 1 = s.dm.ssr.getLsbD 0 := rfl
  rw [classify_typeA hA, classifyA, first, second]
  refine ⟨?_, ?_, ?_, ?_, ?_⟩ <;> simp +contextual

/-- Settles O23: the two halves of a window, of at least two samples each, tell the four results apart. -/
theorem manchesterWindows : Obligations.ManchesterWindows := by
  intro s h hF hc hspb hh
  have half : 0 < h ∧ h ≤ s.params.spbF := by omega
  have top : s.params.spbF - 1 - 0 < s.params.spbF := by omega
  rw [classify_manchester hF hc, classifyManchester, ← hh]
  simp only [Bool.and_eq_true, samplesAll_iff]
  simp only [samplesAll_first_iff, samplesAll_last_iff half.2]
  refine ⟨fun first => if_pos first, fun second => ?_, fun quiet => ?_, fun notFirst notSecond pause => ?_⟩
  · rw [if_neg fun first => Bool.eq_false_iff.1 (second.1 0 half.1) (first.1 0 half.1), if_pos second]
  · rw [if_neg fun first => Bool.eq_false_iff.1 (quiet _ top) (first.1 0 half.1),
      if_neg fun second => Bool.eq_false_iff.1 (quiet 0 (by omega)) (second.2 0 half.1), if_pos quiet]
  · rw [if_neg notFirst, if_neg notSecond, if_neg pause]

/-- Settles O24: a window of one level is not one of the other, as it holds a sample. -/
theorem nrzWindows : Obligations.NrzWindows := by
  intro s v hF hc hspb
  have sample : 0 < s.params.spbF := by omega
  rw [classify_nrz hF hc, classifyNrz]
  simp only [samplesAll_iff]
  refine ⟨fun level => ?_, fun ⟨i, hi, high⟩ ⟨j, hj, low⟩ => ?_, ?_⟩
  · cases v with
    | true => rw [if_pos level]; cases s.params.fOneFirstHalfPause <;> rfl
    | false =>
      rw [if_neg fun high => Bool.eq_false_iff.1 (level 0 sample) (high 0 sample), if_pos level]
      cases s.params.fOneFirstHalfPause <;> rfl
  · rw [if_neg fun all => Bool.eq_false_iff.1 low (all j hj), if_neg fun all => Bool.eq_false_iff.1 (all i hi) high]
  · split_ifs <;> nofun

/-! ### Bits and entries (R12, R62) -/

theorem getLsbD_withBit (v : Byte) (j : Nat) (b : Bool) {i : Nat} (hi : i < 8) :
    (withBit v j b).getLsbD i = if i = j then b else v.getLsbD i := by
  have single : ((1 : Byte) <<< j).getLsbD i = decide (i = j) := by
    rw [BitVec.getLsbD_shiftLeft]
    grind
  unfold withBit
  split
  · rw [BitVec.getLsbD_or, single]; grind
  · rw [BitVec.getLsbD_and, BitVec.getLsbD_not, single]; grind

theorem byteOfBit_eq (b : Bool) : byteOfBit b = if b then 1 else 0 := by cases b <;> rfl

theorem toNat_add_one {n : Half} (h : n.toNat < 32768) : (n + 1).toNat = n.toNat + 1 := by bv_omega

theorem toNat_sub_one {n : Half} (h : 1 ≤ n.toNat) : (n - 1).toNat = n.toNat - 1 := by bv_omega

theorem parIndexOf_toNat {n : Half} (h : 8 ≤ n.toNat) : (parIndexOf n).toNat = n.toNat / 8 - 1 := by
  unfold parIndexOf
  bv_omega

/-! ### The parts of a sample tick (R160, R161, R167, R173, R174) -/

section parts
variable {s : State} {v b : Bool} {r : WindowClass}

theorem exec_evSampleTick (tick : s.tickEnabled) (v : Bool) : exec (.evSampleTick v) s = sampleTick v s :=
  ((execEvSampleTick_cases v s).resolve_right fun off => off.1 tick).2

theorem shiftSample_eq (v : Bool) (s : State) : shiftSample v s = { s with dm := { s.dm with
    ssr := s.dm.ssr <<< 1 ||| (if v then 0 else 1), ssrLen := s.dm.ssrLen + 1, idleCnt := s.idleAfter v } } := by
  have idle : (if v then (if s.dm.idleCnt = 255 then 255 else s.dm.idleCnt + 1) else 0) = s.idleAfter v := by
    unfold State.idleAfter
    split
    · split <;> bv_omega
    · rfl
  rw [shiftSample, idle, byteOfBit_eq]
  cases v <;> rfl

/-- The state in which a full window is acted on: the window is consumed, and the inactivity count stands at `i`
(R160, R161). -/
def State.windowPassed (s : State) (i : Byte) : State :=
  { s with dm := { s.dm with ssr := 0, ssrLen := 0, idleCnt := i } }

section windowPassed
variable (s : State) (i : Byte)
@[simp] theorem windowPassed_bitCount : (s.windowPassed i).dm.bitCount = s.dm.bitCount := rfl
@[simp] theorem windowPassed_parCount : (s.windowPassed i).dm.parCount = s.dm.parCount := rfl
@[simp] theorem windowPassed_readBuf (k : Nat) : (s.windowPassed i).readBuf k = s.readBuf k := rfl
@[simp] theorem windowPassed_readPar (k : Nat) : (s.windowPassed i).readPar k = s.readPar k := rfl
end windowPassed

theorem sampleTick_of_open (receiving : s.sampling) (opens : (s.dm.ssrLen + 1).toNat ≠ s.spb) :
    sampleTick v s = .next (inactivityTest (shiftSample v s)) := by
  have opens : (shiftSample v s).dm.ssrLen.toNat ≠ (shiftSample v s).spb := opens
  rcases receiving with h | h <;> rw [sampleTick, h] <;> exact if_neg opens

theorem sampleTick_of_full (receiving : s.sampling) (fills : s.windowFills v r) :
    sampleTick v s = windowResult r (s.windowPassed (s.idleAfter v)) := by
  obtain ⟨full, rfl⟩ := fills
  have full : (shiftSample v s).dm.ssrLen.toNat = (shiftSample v s).spb := full
  have taken : clearWindow (shiftSample v s) = s.windowPassed (s.idleAfter v) := by rw [shiftSample_eq]; rfl
  rw [← taken]
  rcases receiving with h | h <;> rw [sampleTick, h] <;> exact if_pos full

theorem inactivityTest_of_active (active : s.dm.idleCnt.toNat < s.nIdle.toNat) : inactivityTest s = s := by
  unfold inactivityTest
  split
  · rfl
  all_goals exact if_neg (Nat.not_le.2 active)

theorem inactivityTest_of_idle (receiving : s.sampling) (idle : s.nIdle.toNat ≤ s.dm.idleCnt.toNat) :
    inactivityTest s = endOfFrame (if s.dm.lastKind = .pending then .overflow else .none) s := by
  rcases receiving with h | h <;> rw [inactivityTest, h] <;> exact if_pos idle

@[simp] theorem endOfFrame_readBuf (c : ErrCause) (s : State) (i : Nat) :
    (endOfFrame c s).readBuf i = s.readBuf i := rfl
@[simp] theorem endOfFrame_readPar (c : ErrCause) (s : State) (i : Nat) :
    (endOfFrame c s).readPar i = s.readPar i := rfl

@[simp] theorem inactivityTest_readBuf (s : State) (i : Nat) : (inactivityTest s).readBuf i = s.readBuf i := by
  rcases inactivityTest_cases s with e | ⟨c, e⟩ <;> simp only [e, endOfFrame_readBuf]

@[simp] theorem inactivityTest_readPar (s : State) (i : Nat) : (inactivityTest s).readPar i = s.readPar i := by
  rcases inactivityTest_cases s with e | ⟨c, e⟩ <;> simp only [e, endOfFrame_readPar]

theorem endOfFrame_eq_frameEnded (c : ErrCause) (s : State) : endOfFrame c s =
    s.frameEnded c s.dm.bitCount s.dm.parCount s.dm.lastBit s.dm.prevBit s.dm.lastKind := rfl

/-- The end of a frame keeps five registers of the Demodulator, whatever a tick has done to them before (R174). -/
theorem endOfFrame_withDemod (c : ErrCause) (s : State) (d : Demod) : endOfFrame c { s with dm := d } =
    s.frameEnded c d.bitCount d.parCount d.lastBit d.prevBit d.lastKind := rfl

theorem windowResult_of_bit (b : Bool) (room : s.dm.lastKind ≠ .pending) :
    windowResult (if b then .one else .zero) s = andThen (emit b s) fun t => .next (inactivityTest t) := by
  unfold windowResult
  rw [if_neg fun h => room h.1]
  cases b <;> rfl

theorem windowResult_of_eof (h : s.proto = .typeA ∨ s.dm.lastKind ≠ .pending) :
    windowResult .eof s = endByEof s := by
  refine if_neg ?_
  rintro ⟨pending, other | typeF⟩
  · exact other rfl
  · exact h.elim (fun hA => absurd (hA.symm.trans typeF) nofun) fun room => room pending

theorem windowResult_of_garbage (room : s.dm.lastKind ≠ .pending) :
    windowResult .garbage s = .next (endOfFrame .garbage s) := if_neg fun h => room h.1

theorem windowResult_of_pending (pending : s.dm.lastKind = .pending) (h : r ≠ .eof ∨ s.proto = .typeF) :
    windowResult r s = .next (endOfFrame .overflow s) := if_pos ⟨pending, h⟩

end parts

/-! ### The framer, case by case (R170 to R173) -/

section framer
variable {s : State} {b : Bool}

/-- The state after emit has stored a data bit (R170). -/
def State.withDataBit (s : State) (b : Bool) : State := { s with
  buf := s.buf.write (s.bitIndex s.dm.bitCount) (s.entryWithBit s.dm.bitCount b)
  dm := { s.dm.noteBit b .data with
    bitCount := s.dm.bitCount + 1
    state := if s.proto = .typeA ∧ (s.dm.bitCount + 1).toNat % 8 = 0 then .samplingParityBit
      else .samplingDataBit } }

/-- The state after emit has stored a parity bit (R171). -/
def State.withParityBit (s : State) (b : Bool) : State := { s with
  par := s.par.write (s.dm.bitCount.toNat / 8 - 1) b
  dm := { s.dm.noteBit b .parity with parCount := s.dm.parCount + 1, state := .samplingDataBit } }

theorem emit_of_room (hd : s.dm.state = .samplingDataBit) (room : s.dm.bitCount.toNat < s.bitcap) :
    emit b s = .next (s.withDataBit b) := by
  simp only [emit, hd, emitData, if_neg room.ne, if_neg (bitIndex_lt_cap room).not_ge]
  rfl

theorem emit_of_full (hd : s.dm.state = .samplingDataBit) (full : s.dm.bitCount.toNat = s.bitcap) :
    emit b s = .next { s with dm := s.dm.noteBit b .pending } := by
  simp only [emit, hd, emitData, if_pos full]

theorem emit_of_parity (hd : s.dm.state = .samplingParityBit) (closed : 8 ≤ s.dm.bitCount.toNat)
    (fits : s.dm.bitCount.toNat / 8 ≤ s.params.cap) : emit b s = .next (s.withParityBit b) := by
  have inCap : ¬ s.params.cap ≤ s.dm.bitCount.toNat / 8 - 1 := by omega
  simp only [emit, hd, emitParity, parIndexOf_toNat closed, if_neg inCap]
  rfl

/-- The entry of BUF that a data bit reaches holds it at its place; in Type A the first bit of a byte clears the others,
and any other bit keeps them (R170). -/
theorem readBuf_withDataBit_typeA (hA : s.proto = .typeA) {j : Nat} (hj : j < 8) :
    ((s.withDataBit b).readBuf (s.dm.bitCount.toNat / 8)).getLsbD j =
      if j = s.dm.bitCount.toNat % 8 then b
      else if s.dm.bitCount.toNat % 8 = 0 then false
      else (s.readBuf (s.dm.bitCount.toNat / 8)).getLsbD j := by
  have index : s.bitIndex s.dm.bitCount = s.dm.bitCount.toNat / 8 := by rw [State.bitIndex, hA]
  have offset : s.bitOffset s.dm.bitCount = s.dm.bitCount.toNat % 8 := by rw [State.bitOffset, hA]
  have entry : (s.withDataBit b).readBuf (s.dm.bitCount.toNat / 8) = s.entryWithBit s.dm.bitCount b := by
    rw [← index]
    exact State.readBuf_writeBuf_self s _ _
  rw [entry, State.entryWithBit, hA]
  dsimp only
  rw [getLsbD_withBit _ _ _ hj, index, offset]
  split
  · rfl
  · split
    · exact BitVec.getLsbD_zero
    · rfl

theorem readBuf_withDataBit_typeF (hF : s.proto = .typeF) :
    (s.withDataBit b).readBuf s.dm.bitCount.toNat = if b then 1 else 0 := by
  have index : s.bitIndex s.dm.bitCount = s.dm.bitCount.toNat := by rw [State.bitIndex, hF]
  have entry : s.entryWithBit s.dm.bitCount b = byteOfBit b := by rw [State.entryWithBit, hF]
  rw [← byteOfBit_eq, ← entry, ← index]
  exact State.readBuf_writeBuf_self s _ _

theorem readBuf_withDataBit_ne {i : Nat} (h : i ≠ s.bitIndex s.dm.bitCount) :
    (s.withDataBit b).readBuf i = s.readBuf i :=
  State.readBuf_writeBuf_ne s _ h

theorem readPar_withParityBit_self : (s.withParityBit b).readPar (s.dm.bitCount.toNat / 8 - 1) = b :=
  State.readPar_writePar_self s _ _

theorem readPar_withParityBit_ne {i : Nat} (h : i ≠ s.dm.bitCount.toNat / 8 - 1) :
    (s.withParityBit b).readPar i = s.readPar i :=
  State.readPar_writePar_ne s _ h

theorem withDataBit_sampling (s : State) (b : Bool) : (s.withDataBit b).sampling := by
  unfold State.withDataBit State.sampling
  dsimp only
  split
  · exact .inr rfl
  · exact .inl rfl

/-- The state after a Type A retraction of a data bit (R172). -/
def State.withoutDataBit (s : State) : State := { s with
  buf := s.buf.write ((s.dm.bitCount.toNat - 1) / 8)
    (withBit (s.readBuf ((s.dm.bitCount.toNat - 1) / 8)) ((s.dm.bitCount.toNat - 1) % 8) false)
  dm := { s.dm with bitCount := s.dm.bitCount - 1, lastBit := s.dm.prevBit, lastKind := .none } }

/-- The state after the retraction of a parity bit (R172). -/
def State.withoutParityBit (s : State) : State := { s with
  par := s.par.write (s.dm.parCount.toNat - 1) false
  dm := { s.dm with parCount := s.dm.parCount - 1, lastBit := s.dm.prevBit, lastKind := .none } }

theorem retract_of_unstored (h : s.dm.lastKind = .none ∨ s.dm.lastKind = .pending) :
    retract s = .next (forgetBit s) := by
  rcases h with h | h <;> rw [retract, h]

theorem retract_of_data (hA : s.proto = .typeA) (hk : s.dm.lastKind = .data) (positive : 1 ≤ s.dm.bitCount.toNat)
    (fits : s.dm.bitCount.toNat ≤ s.bitcap) : retract s = .next s.withoutDataBit := by
  have last := toNat_sub_one positive
  have index : s.bitIndex (s.dm.bitCount - 1) = (s.dm.bitCount.toNat - 1) / 8 := by rw [State.bitIndex, hA, last]
  have offset : s.bitOffset (s.dm.bitCount - 1) = (s.dm.bitCount.toNat - 1) % 8 := by
    rw [State.bitOffset, hA, last]
  have inCap : (s.dm.bitCount.toNat - 1) / 8 < s.params.cap := by
    rw [← index]
    exact bitIndex_lt_cap (by omega)
  simp only [retract, hk, retractData, index, offset, hA, if_neg inCap.not_ge, andThen_next]
  rfl

theorem retract_of_parity (hk : s.dm.lastKind = .parity) (positive : 1 ≤ s.dm.parCount.toNat)
    (fits : s.dm.parCount.toNat ≤ s.params.cap) : retract s = .next s.withoutParityBit := by
  have inCap : ¬ s.params.cap ≤ s.dm.parCount.toNat - 1 := by omega
  simp only [retract, hk, retractParity, toNat_sub_one positive, if_neg inCap, andThen_next]
  rfl

theorem endByEof_of_retract {t : State} (hA : s.proto = .typeA) (h : retract s = .next t) :
    endByEof s = .next (endOfFrame .none t) := by
  rw [endByEof, hA, h]
  rfl

theorem getLsbD_readBuf_withoutDataBit (s : State) (i : Nat) {j : Nat} (hj : j < 8) :
    (s.withoutDataBit.readBuf i).getLsbD j =
      if i = (s.dm.bitCount.toNat - 1) / 8 ∧ j = (s.dm.bitCount.toNat - 1) % 8 then false
      else (s.readBuf i).getLsbD j := by
  by_cases hi : i = (s.dm.bitCount.toNat - 1) / 8
  · have entry : s.withoutDataBit.readBuf ((s.dm.bitCount.toNat - 1) / 8) = _ :=
      State.readBuf_writeBuf_self s _ _
    rw [hi, entry, getLsbD_withBit _ _ _ hj]
    simp only [true_and]
  · have other : s.withoutDataBit.readBuf i = s.readBuf i := State.readBuf_writeBuf_ne s _ hi
    rw [other, if_neg fun h => hi h.1]

theorem readPar_withoutParityBit (s : State) (i : Nat) :
    s.withoutParityBit.readPar i = if i = s.dm.parCount.toNat - 1 then false else s.readPar i := by
  split
  · rename_i hi
    rw [hi]
    exact State.readPar_writePar_self s _ _
  · rename_i hi
    exact State.readPar_writePar_ne s _ hi

end framer

/-! ### A sample tick (R160) -/

section tick
variable {s u : State} {v b : Bool}

/-- A tick that decodes a bit emits it and then tests for inactivity. -/
theorem sampleTick_of_bit (receiving : s.sampling) (fills : s.windowFills v (if b then .one else .zero))
    (notPending : s.dm.lastKind ≠ .pending) (emits : emit b (s.windowPassed (s.idleAfter v)) = .next u) :
    sampleTick v s = .next (inactivityTest u) := by
  rw [sampleTick_of_full receiving fills, windowResult_of_bit (s := s.windowPassed (s.idleAfter v)) b notPending, emits,
    andThen_next]

/-- A tick that decodes a Type A end of frame retracts a bit and then ends the frame. -/
theorem sampleTick_of_eof (receiving : s.sampling) (fills : s.windowFills v .eof) (hA : s.proto = .typeA)
    (retracts : retract (s.windowPassed (s.idleAfter v)) = .next u) : sampleTick v s = .next (endOfFrame .none u) := by
  rw [sampleTick_of_full receiving fills, windowResult_of_eof (s := s.windowPassed (s.idleAfter v)) (.inl hA),
    endByEof_of_retract (s := s.windowPassed (s.idleAfter v)) hA retracts]

end tick

/-- Settles O25: an open window is not looked at, and the inactivity test decides. -/
theorem sampleInOpenWindow : Obligations.SampleInOpenWindow := by
  intro v s tick receiving opens
  rw [exec_evSampleTick tick, sampleTick_of_open receiving opens, shiftSample_eq]
  refine ⟨fun active => congrArg _ (inactivityTest_of_active active), fun idle => congrArg _ ?_⟩
  refine Eq.trans (inactivityTest_of_idle ?_ ?_) (endOfFrame_withDemod _ s _)
  · exact receiving
  · exact idle

/-- Settles O29: the window is consumed before it is acted on, so nothing of it reaches the frame. -/
theorem garbageEndsFrame : Obligations.GarbageEndsFrame := by
  intro v s tick receiving fills room
  rw [exec_evSampleTick tick, sampleTick_of_full receiving fills,
    windowResult_of_garbage (s := s.windowPassed (s.idleAfter v)) room, State.windowPassed, endOfFrame_withDemod]

/-- Settles O26: the tick is an emit and the inactivity test, which leaves BUF as the emit wrote it. -/
theorem dataBitStored : Obligations.DataBitStored := by
  intro v b s tick hd fills notPending room
  have emits := emit_of_room (s := s.windowPassed (s.idleAfter v)) (b := b) hd room
  have receiving := withDataBit_sampling (s.windowPassed (s.idleAfter v)) b
  refine ⟨_, (exec_evSampleTick tick v).trans (sampleTick_of_bit (.inl hd) fills notPending emits),
    fun active => ?_, fun idle => ?_, fun hA j hj => ?_, fun hF => ?_, fun i hi => ?_⟩
  · rw [inactivityTest_of_active active]
    simp only [State.withDataBit, State.windowPassed, Demod.noteBit]
    rfl
  · rw [inactivityTest_of_idle receiving idle, endOfFrame_eq_frameEnded]
    simp only [State.withDataBit, State.windowPassed, Demod.noteBit, State.frameEnded]
    rfl
  · rw [inactivityTest_readBuf]
    exact readBuf_withDataBit_typeA (s := s.windowPassed (s.idleAfter v)) hA hj
  · rw [inactivityTest_readBuf]
    exact readBuf_withDataBit_typeF (s := s.windowPassed (s.idleAfter v)) hF
  · rw [inactivityTest_readBuf]
    exact readBuf_withDataBit_ne (s := s.windowPassed (s.idleAfter v)) hi

/-- Settles O27: the tick is an emit and the inactivity test, which leaves PAR as the emit wrote it. -/
theorem parityBitStored : Obligations.ParityBitStored := by
  intro v b s tick hd fills notPending closed fits
  have emits := emit_of_parity (s := s.windowPassed (s.idleAfter v)) (b := b) hd closed fits
  refine ⟨_, (exec_evSampleTick tick v).trans (sampleTick_of_bit (.inr hd) fills notPending emits),
    fun active => ?_, fun idle => ?_, ?_, fun i hi => ?_⟩
  · rw [inactivityTest_of_active active]
    rfl
  · rw [inactivityTest_of_idle (.inl rfl) idle, endOfFrame_eq_frameEnded]
    rfl
  · rw [inactivityTest_readPar]
    exact readPar_withParityBit_self (s := s.windowPassed (s.idleAfter v))
  · rw [inactivityTest_readPar]
    exact readPar_withParityBit_ne (s := s.windowPassed (s.idleAfter v)) hi

/-- Settles O28: a bit without room is only noted, and while it is PENDING the next window's class is not looked at. -/
theorem overflowHeldThenReported : Obligations.OverflowHeldThenReported := by
  intro v b r s tick
  rw [exec_evSampleTick tick]
  refine ⟨fun hd fills notPending full => ?_, fun receiving fills pending ends => ?_⟩
  · rw [sampleTick_of_bit (.inl hd) fills notPending (emit_of_full (s := s.windowPassed (s.idleAfter v)) hd full)]
    refine ⟨fun active => congrArg _ (inactivityTest_of_active active), fun idle => congrArg _ ?_⟩
    refine Eq.trans (inactivityTest_of_idle ?_ ?_) (endOfFrame_withDemod _ s _)
    · exact .inl hd
    · exact idle
  · rw [sampleTick_of_full receiving fills, windowResult_of_pending (s := s.windowPassed (s.idleAfter v)) pending ends,
      State.windowPassed, endOfFrame_withDemod, pending]

/-- Settles O30: by the kind of the last bit, which says what the retraction takes back. -/
theorem eofRetractsItsZero : Obligations.EofRetractsItsZero := by
  intro v s tick receiving fills
  rw [exec_evSampleTick tick]
  have retracted {t : State} (hA : s.proto = .typeA) (h : retract (s.windowPassed (s.idleAfter v)) = .next t) :=
    sampleTick_of_eof receiving fills hA h
  refine ⟨fun hF notPending => ?_, fun hA unstored => ?_, fun hA data positive fits => ?_,
    fun hA parity positive fits => ?_⟩
  · have typeF : (s.windowPassed (s.idleAfter v)).proto = .typeF := hF
    rw [sampleTick_of_full receiving fills,
      windowResult_of_eof (s := s.windowPassed (s.idleAfter v)) (.inr notPending), endByEof,
      typeF, State.windowPassed, endOfFrame_withDemod]
  · rw [retracted hA (retract_of_unstored unstored)]
    exact congrArg _ (endOfFrame_withDemod .none s _)
  · refine ⟨_, retracted hA (retract_of_data hA data positive fits), ?_, fun i j hj => ?_⟩
    · simp only [endOfFrame_eq_frameEnded, State.withoutDataBit, State.windowPassed, State.frameEnded]
    · rw [endOfFrame_readBuf, getLsbD_readBuf_withoutDataBit _ i hj, windowPassed_bitCount, windowPassed_readBuf]
  · refine ⟨_, retracted hA (retract_of_parity parity positive fits), ?_, fun i => ?_⟩
    · simp only [endOfFrame_eq_frameEnded, State.withoutParityBit, State.windowPassed, State.frameEnded]
    · rw [endOfFrame_readPar, readPar_withoutParityBit, windowPassed_parCount, windowPassed_readPar]

/-- A sample tick writes of the Modulation Timer only what the end of a frame locks (R116, R174). -/
theorem sampleTick_mt {v : Bool} {s t : State} (h : sampleTick v s = .next t) :
    t.mt = { s.mt with cmp := t.mt.cmp, capEn := t.mt.capEn } := by
  have test (u : State) : (inactivityTest u).mt =
      { u.mt with cmp := (inactivityTest u).mt.cmp, capEn := (inactivityTest u).mt.capEn } := by
    rcases inactivityTest_cases u with e | ⟨c, e⟩
    · rw [e]
    · rw [e]; rfl
  rcases sampleTick_cases h with ⟨-, rfl⟩ | ⟨-, -, rfl⟩ | ⟨-, -, hw⟩
  · rfl
  · exact test (shiftSample v s)
  · rcases windowResult_cases hw with ⟨c, rfl⟩ | ⟨b, u, hu, rfl⟩ | ⟨u, hu, rfl⟩
    · rfl
    · have mt : u.mt = s.mt := by rw [emit_frame hu]; rfl
      rw [← mt]; exact test u
    · have mt : u.mt = s.mt := by rw [retract_frame hu]; rfl
      rw [← mt]; rfl

/-- Settles O31: the invariant's own step lemma gives the state, and the frame of a sample tick what it leaves. -/
theorem sampleTickCompletes : Obligations.SampleTickCompletes := by
  intro v s inv
  rcases execEvSampleTick_cases v s with ⟨tick, e⟩ | ⟨-, e⟩
  · obtain ⟨t, ht, -⟩ := sampleTick_keeps inv.inCycle tick.1 v
    have mt := sampleTick_mt ht
    refine ⟨t, e.trans ht, ?_⟩
    have frame := sampleTick_frame ht
    generalize t.buf = buf, t.par = par, t.dm = dm, t.st = st, t.mt = mt', t.demodDone = done at *
    subst frame
    exact ⟨rfl, rfl, rfl, rfl, rfl, rfl, rfl, rfl, rfl, rfl, rfl, mt, rfl⟩
  · exact ⟨s, e, rfl, rfl, rfl, rfl, rfl, rfl, rfl, rfl, rfl, rfl, rfl, rfl, rfl⟩

/-! ### A Type A frame in the reader's code (R177)

Each bit of the frame is one window of two samples. While the frame runs, the inactivity count stands at 2 at most at
the end of a window, and at 0 after a 1, so that neither half of the next bit brings it to N_IDLE. -/

/-- Of the first `n` bits of a Type A stream, the number of data bits: every ninth bit is a parity bit (R171). -/
def dataCount (n : Nat) : Nat := n - n / 9

section dataCount
variable {m n : Nat}

theorem dataCount_succ_of_data (h : n % 9 ≠ 8) : dataCount (n + 1) = dataCount n + 1 := by
  unfold dataCount; omega

theorem dataCount_succ_of_parity (h : n % 9 = 8) : dataCount (n + 1) = dataCount n := by
  unfold dataCount; omega

theorem dataCount_le_succ (n : Nat) : dataCount n ≤ dataCount (n + 1) := by
  unfold dataCount; omega

/-- No two data bits have one place. -/
theorem dataCount_lt (h : m < n) (data : m % 9 ≠ 8) : dataCount m < dataCount n := by
  unfold dataCount; omega

/-- A parity bit comes after whole bytes. -/
theorem dataCount_of_parity (h : n % 9 = 8) : dataCount n = 8 * (n / 9 + 1) := by
  unfold dataCount; omega

theorem dataCount_mod_eight (n : Nat) : (dataCount n + 1) % 8 = 0 ↔ (n + 1) % 9 = 8 := by
  unfold dataCount; omega

end dataCount

section frames
variable {p : Params} {s t u : State} {b : Bool} {l : List Bool} {i : Byte}

/-! #### The stream -/

theorem millerLevels_concat (last : Bool) (l : List Bool) (b : Bool) :
    millerLevels last (l ++ [b]) = millerLevels last l ++ (millerPauses (l.getLastD last) b).map (!·) := by
  induction l generalizing last with
  | nil => simp [millerLevels]
  | cons a l ih => rw [List.cons_append, millerLevels, ih, List.getLastD_cons, millerLevels, List.append_assoc]

theorem sampleTicks_append (l m : List Bool) (s : State) :
    sampleTicks (l ++ m) s = andThen (sampleTicks l s) (sampleTicks m) := by
  induction l generalizing s with
  | nil => rfl
  | cons v l ih =>
    have later : (fun t => sampleTicks (l ++ m) t) = fun t => andThen (sampleTicks l t) (sampleTicks m) := funext ih
    rw [List.cons_append, sampleTicks, sampleTicks, andThen_andThen, ← later]

/-! #### One window -/

/-- Between two windows of a Type A frame. -/
structure State.AtWindow (p : Params) (s : State) : Prop where
  typeA : s.proto = .typeA
  params : s.params = p
  receiving : s.sampling
  empty : s.dm.ssr = 0 ∧ s.dm.ssrLen = 0
  idle : s.dm.idleCnt.toNat ≤ 2
  active : s.dm.lastBit = true → s.dm.idleCnt = 0

theorem windowPassed_shiftSample (v : Bool) (s : State) (i : Byte) :
    (shiftSample v s).windowPassed i = s.windowPassed i := rfl

theorem State.AtWindow.four_le_nIdle (h : s.AtWindow p) (hp : p.valid) : 4 ≤ s.nIdle.toNat := by
  obtain ⟨-, -, -, -, -, nIdleA, -⟩ := hp
  rw [State.nIdle, h.typeA, h.params]
  exact nIdleA

/-- The first half of a window is shifted in, and the second fills the window. -/
theorem State.AtWindow.sampleTicks_two (h : s.AtWindow p) (hp : p.valid) (v w : Bool) :
    sampleTicks [v, w] s = sampleTick w (shiftSample v s) := by
  obtain ⟨-, len⟩ := h.empty
  have opens : (s.dm.ssrLen + 1).toNat ≠ s.spb := by
    rw [len, State.spb, h.typeA]
    exact (by decide : (0 + 1 : BitVec 3).toNat ≠ Config.spbA)
  have quiet : (shiftSample v s).dm.idleCnt.toNat < s.nIdle.toNat := by
    have idle := h.idle
    have nIdle := h.four_le_nIdle hp
    have count : (s.idleAfter v).toNat ≤ 3 := by
      cases v with
      | false => exact Nat.zero_le 3
      | true => simp only [State.idleAfter, if_true, BitVec.toNat_ofNat]; omega
    rw [shiftSample_eq]
    exact count.trans_lt nIdle
  rw [sampleTicks, sampleTick_of_openWindow h.receiving opens quiet, andThen_next, sampleTicks]
  cases sampleTick w (shiftSample v s) <;> rfl

/-- The two samples of a window as it is classified (R161). -/
theorem shiftSample_two_ssr (empty : s.dm.ssr = 0) (v w : Bool) :
    (shiftSample w (shiftSample v s)).dm.ssr = byteOfBit (!v) <<< 1 ||| byteOfBit (!w) := by
  change (s.dm.ssr <<< 1 ||| byteOfBit (!v)) <<< 1 ||| byteOfBit (!w) = _
  rw [empty]
  cases v <;> rfl

/-- What the second half of a window finds (R161, R162). -/
theorem State.AtWindow.windowFills (h : s.AtWindow p) (v w : Bool) :
    (shiftSample v s).windowFills w (classifyA (byteOfBit (!v) <<< 1 ||| byteOfBit (!w)) s.dm.lastBit) := by
  obtain ⟨ssr, len⟩ := h.empty
  have typeA : (shiftSample w (shiftSample v s)).proto = .typeA := h.typeA
  have spb : (shiftSample v s).spb = 2 := by change s.spb = 2; rw [State.spb, h.typeA]; rfl
  have full : (shiftSample v s).dm.ssrLen = 1 := by change s.dm.ssrLen + 1 = 1; rw [len]; rfl
  refine ⟨by rw [full, spb]; rfl, ?_⟩
  rw [classify_typeA typeA, shiftSample_two_ssr ssr]
  rfl

theorem emit_inactivity (h : emit b s = .next u) : u.dm.idleCnt = s.dm.idleCnt ∧ u.nIdle = s.nIdle := by
  unfold emit at h
  split at h
  · rcases emitData_cases h with ⟨-, rfl⟩ | ⟨-, -, rfl⟩ <;> exact ⟨rfl, rfl⟩
  · obtain ⟨-, rfl⟩ := emitParity_cases h
    exact ⟨rfl, rfl⟩
  all_goals cases h; exact ⟨rfl, rfl⟩

/-- A window of a bit, if the inactivity count stands at 2 at most at its end. -/
theorem State.AtWindow.sampleTicks_of_bit (h : s.AtWindow p) (hp : p.valid) (notPending : s.dm.lastKind ≠ .pending)
    {v w : Bool} (decodes : classifyA (byteOfBit (!v) <<< 1 ||| byteOfBit (!w)) s.dm.lastBit =
      if b then .one else .zero)
    (count : (shiftSample v s).idleAfter w = i) (small : i.toNat ≤ 2)
    (emits : emit b (s.windowPassed i) = .next u) : sampleTicks [v, w] s = .next u := by
  have fills := h.windowFills v w
  rw [decodes] at fills
  subst count
  rw [← windowPassed_shiftSample v] at emits
  obtain ⟨idle, nIdle⟩ := emit_inactivity emits
  have nIdleA : 4 ≤ ((shiftSample v s).windowPassed ((shiftSample v s).idleAfter w)).nIdle.toNat := h.four_le_nIdle hp
  have active : u.dm.idleCnt.toNat < u.nIdle.toNat := by
    rw [idle, nIdle]
    exact small.trans_lt (Nat.lt_of_lt_of_le (by decide) nIdleA)
  rw [h.sampleTicks_two hp, sampleTick_of_bit (s := shiftSample v s) h.receiving fills notPending emits,
    inactivityTest_of_active active]

/-- The window of one bit decodes to that bit, which is emitted; the inactivity count cannot end the frame (R162,
R167). -/
theorem State.AtWindow.sampleTicks_bit (h : s.AtWindow p) (hp : p.valid) (notPending : s.dm.lastKind ≠ .pending)
    (b : Bool) : ∃ i : Byte, i.toNat ≤ 2 ∧ (b = true → i = 0) ∧ ∀ u, emit b (s.windowPassed i) = .next u →
      sampleTicks ((millerPauses s.dm.lastBit b).map (!·)) s = .next u := by
  cases b with
  | true => exact ⟨0, by decide, fun _ => rfl, fun u emits =>
      h.sampleTicks_of_bit hp notPending (v := true) (w := false) (i := 0) rfl rfl (by decide) emits⟩
  | false =>
    cases hl : s.dm.lastBit with
    | true =>
      have count : (shiftSample true s).idleAfter true = 2 := by
        have idle := h.active hl
        rw [State.idleAfter, shiftSample_eq, State.idleAfter, idle]
        rfl
      exact ⟨2, by decide, nofun, fun u emits =>
        h.sampleTicks_of_bit hp notPending (v := true) (w := true) (by rw [hl]; rfl) count (by decide) emits⟩
    | false =>
      exact ⟨1, by decide, nofun, fun u emits =>
        h.sampleTicks_of_bit hp notPending (v := false) (w := true) (i := 1) rfl rfl (by decide) emits⟩

/-- The Y after a logic 0 ends the frame, once that logic 0 is retracted (R166). -/
theorem State.AtWindow.sampleTicks_eof (h : s.AtWindow p) (hp : p.valid) (zero : s.dm.lastBit = false) :
    ∃ i : Byte, ∀ u, retract (s.windowPassed i) = .next u →
      sampleTicks [true, true] s = .next (endOfFrame .none u) := by
  refine ⟨(shiftSample true s).idleAfter true, fun u retracts => ?_⟩
  have fills := h.windowFills true true
  rw [zero] at fills
  rw [h.sampleTicks_two hp]
  exact sampleTick_of_eof (s := shiftSample true s) (v := true) h.receiving fills h.typeA retracts

/-! #### The bits received so far -/

/-- `s` holds `b` where the `n`-th bit of a Type A stream belongs (R62, R170, R171). -/
def State.holdsBit (s : State) (n : Nat) (b : Bool) : Prop :=
  if n % 9 = 8 then s.readPar (n / 9) = b else (s.readBuf (dataCount n / 8)).getLsbD (dataCount n % 8) = b

/-- `s` stands after the window of the last bit of `l`, with every bit stored. -/
structure Received (p : Params) (l : List Bool) (s : State) : Prop extends s.AtWindow p where
  fits : dataCount l.length ≤ 8 * p.cap
  state : s.dm.state = if l.length % 9 = 8 then .samplingParityBit else .samplingDataBit
  bitCount : s.dm.bitCount.toNat = dataCount l.length
  parCount : s.dm.parCount.toNat = l.length / 9
  lastBit : s.dm.lastBit = l.getLastD false
  notPending : s.dm.lastKind ≠ .pending
  stored : ∀ n b, l[n]? = some b → s.holdsBit n b

theorem State.holdsBit.of_same {n : Nat} (holds : s.holdsBit n b)
    (par : n % 9 = 8 → u.readPar (n / 9) = s.readPar (n / 9))
    (buf : n % 9 ≠ 8 → (u.readBuf (dataCount n / 8)).getLsbD (dataCount n % 8) =
      (s.readBuf (dataCount n / 8)).getLsbD (dataCount n % 8)) : u.holdsBit n b := by
  unfold State.holdsBit at holds ⊢
  split_ifs at holds ⊢ with parity
  · exact (par parity).trans holds
  · exact (buf parity).trans holds

/-- The bits of a stream stay at their places, and one more is stored at its own. -/
theorem stored_concat {l : List Bool} (stored : ∀ n b, l[n]? = some b → s.holdsBit n b)
    (keeps : ∀ n c, n < l.length → s.holdsBit n c → u.holdsBit n c) (last : u.holdsBit l.length b) :
    ∀ n c, (l ++ [b])[n]? = some c → u.holdsBit n c := by
  intro n c hn
  rw [List.getElem?_append] at hn
  split at hn
  · rename_i lt
    exact keeps n c lt (stored n c hn)
  · rename_i ge
    obtain ⟨hlt, e⟩ := List.getElem?_eq_some_iff.1 hn
    have same : n = l.length := by rw [List.length_singleton] at hlt; omega
    subst same
    simp only [Nat.sub_self, List.getElem_cons_zero] at e
    rw [← e]
    exact last

/-! #### One more bit (R170, R171) -/

/-- An earlier data bit stays when another is stored. -/
theorem getLsbD_readBuf_withDataBit_of_lt (hA : s.proto = .typeA) {m : Nat} (h : m < s.dm.bitCount.toNat) :
    ((s.withDataBit b).readBuf (m / 8)).getLsbD (m % 8) = (s.readBuf (m / 8)).getLsbD (m % 8) := by
  by_cases same : m / 8 = s.dm.bitCount.toNat / 8
  · rw [same, readBuf_withDataBit_typeA hA (Nat.mod_lt _ (by decide)), if_neg (by omega), if_neg (by omega)]
  · rw [readBuf_withDataBit_ne]
    rwa [State.bitIndex, hA]

theorem Received.withDataBit (h : Received p l s) (hp : p.valid) (data : l.length % 9 ≠ 8)
    (room : dataCount l.length < 8 * p.cap) (small : i.toNat ≤ 2) (zero : b = true → i = 0) :
    Received p (l ++ [b]) ((s.windowPassed i).withDataBit b) := by
  have len : (l ++ [b]).length = l.length + 1 := List.length_append
  have typeA : (s.windowPassed i).proto = .typeA := h.typeA
  have bits : (s.windowPassed i).dm.bitCount.toNat = dataCount l.length := h.bitCount
  have next : ((s.windowPassed i).dm.bitCount + 1).toNat = dataCount l.length + 1 := by
    obtain ⟨⟨-, cap⟩, -⟩ := hp
    rw [toNat_add_one (by omega), bits]
  refine
    { typeA := h.typeA, params := h.params, receiving := withDataBit_sampling _ _, empty := ⟨rfl, rfl⟩
      idle := small, active := zero, fits := ?_, state := ?_, bitCount := ?_, parCount := ?_
      lastBit := (List.getLastD_concat ..).symm, notPending := nofun
      stored := stored_concat h.stored (fun n c hn holds => holds.of_same (fun _ => rfl) fun earlier => ?_) ?_ }
  · rw [len, dataCount_succ_of_data data]
    exact room
  · have closes : ((s.windowPassed i).proto = .typeA ∧ ((s.windowPassed i).dm.bitCount + 1).toNat % 8 = 0) ↔
        (l ++ [b]).length % 9 = 8 := by
      rw [next, len, dataCount_mod_eight]
      exact and_iff_right typeA
    exact if_congr closes rfl rfl
  · rw [len, dataCount_succ_of_data data, ← next]
    rfl
  · rw [len]
    exact h.parCount.trans (by omega)
  · exact getLsbD_readBuf_withDataBit_of_lt typeA (by rw [bits]; exact dataCount_lt hn earlier)
  · rw [State.holdsBit, if_neg data, ← bits, readBuf_withDataBit_typeA typeA (Nat.mod_lt _ (by decide)), if_pos rfl]

theorem Received.withParityBit (h : Received p l s) (hp : p.valid) (parity : l.length % 9 = 8)
    (small : i.toNat ≤ 2) (zero : b = true → i = 0) :
    Received p (l ++ [b]) ((s.windowPassed i).withParityBit b) := by
  have len : (l ++ [b]).length = l.length + 1 := List.length_append
  have bits : s.dm.bitCount.toNat = dataCount l.length := h.bitCount
  have bytes := dataCount_of_parity parity
  have place : (s.windowPassed i).dm.bitCount.toNat / 8 - 1 = l.length / 9 := by
    change s.dm.bitCount.toNat / 8 - 1 = l.length / 9
    omega
  have next : (s.dm.parCount + 1).toNat = l.length / 9 + 1 := by
    have pars := h.parCount
    have fits := h.fits
    obtain ⟨⟨-, cap⟩, -⟩ := hp
    rw [toNat_add_one (by omega), pars]
  refine
    { typeA := h.typeA, params := h.params, receiving := .inl rfl, empty := ⟨rfl, rfl⟩
      idle := small, active := zero, fits := ?_, state := ?_, bitCount := ?_, parCount := ?_
      lastBit := (List.getLastD_concat ..).symm, notPending := nofun
      stored := stored_concat h.stored (fun n c hn holds => holds.of_same (fun earlier => ?_) fun _ => rfl) ?_ }
  · rw [len, dataCount_succ_of_parity parity]
    exact h.fits
  · rw [len, if_neg (by omega)]
    rfl
  · rw [len, dataCount_succ_of_parity parity]
    exact bits
  · rw [len]
    exact next.trans (by omega)
  · exact readPar_withParityBit_ne (by rw [place]; omega)
  · rw [State.holdsBit, if_pos parity, ← place]
    exact readPar_withParityBit_self

theorem Received.bitcap_eq (h : Received p l s) : s.bitcap = 8 * p.cap := by
  rw [State.bitcap, h.typeA, h.params]

theorem Received.emit_parity (h : Received p l s) (parity : l.length % 9 = 8) (i : Byte) :
    emit b (s.windowPassed i) = .next ((s.windowPassed i).withParityBit b) := by
  have hd : (s.windowPassed i).dm.state = .samplingParityBit := h.state.trans (if_pos parity)
  have bits : (s.windowPassed i).dm.bitCount.toNat = 8 * (l.length / 9 + 1) :=
    h.bitCount.trans (dataCount_of_parity parity)
  have fits : 8 * (l.length / 9 + 1) ≤ 8 * (s.windowPassed i).params.cap := by
    have params : (s.windowPassed i).params = p := h.params
    rw [← dataCount_of_parity parity, params]
    exact h.fits
  exact emit_of_parity hd (by omega) (by omega)

theorem Received.emit_data (h : Received p l s) (data : l.length % 9 ≠ 8) (room : dataCount l.length < 8 * p.cap)
    (i : Byte) : emit b (s.windowPassed i) = .next ((s.windowPassed i).withDataBit b) := by
  have hd : (s.windowPassed i).dm.state = .samplingDataBit := h.state.trans (if_neg data)
  refine emit_of_room hd ?_
  change s.dm.bitCount.toNat < s.bitcap
  rwa [h.bitCount, h.bitcap_eq]

/-- A bit for which there is room is received (R170, R171). -/
theorem Received.concat (h : Received p l s) (hp : p.valid) (room : dataCount (l.length + 1) ≤ 8 * p.cap) :
    ∃ u, sampleTicks ((millerPauses (l.getLastD false) b).map (!·)) s = .next u ∧ Received p (l ++ [b]) u := by
  obtain ⟨i, small, zero, run⟩ := h.sampleTicks_bit hp h.notPending b
  rw [h.lastBit] at run
  by_cases parity : l.length % 9 = 8
  · exact ⟨_, run _ (h.emit_parity parity i), h.withParityBit hp parity small zero⟩
  · have one : dataCount l.length < 8 * p.cap := by rw [dataCount_succ_of_data parity] at room; exact room
    exact ⟨_, run _ (h.emit_data parity one i), h.withDataBit hp parity one small zero⟩

theorem received_of_fits (hp : p.valid) (start : Received p [] s) (l : List Bool)
    (fits : dataCount l.length ≤ 8 * p.cap) :
    ∃ t, sampleTicks (millerLevels false l) s = .next t ∧ Received p l t := by
  induction l using List.reverseRecOn with
  | nil => exact ⟨s, rfl, start⟩
  | append_singleton l b ih =>
    rw [List.length_append, List.length_singleton] at fits
    obtain ⟨t, ran, received⟩ := ih ((dataCount_le_succ _).trans fits)
    obtain ⟨u, ran', received'⟩ := received.concat hp fits
    exact ⟨u, by rw [millerLevels_concat, sampleTicks_append, ran, andThen_next, ran'], received'⟩

/-! #### The end of the frame (R166, R172) -/

/-- `s` holds the stream `l` and no more. -/
structure HoldsFrame (l : List Bool) (s : State) : Prop where
  lastBit : s.dm.lastBit = l.getLastD false
  bitCount : s.dm.bitCount.toNat = dataCount l.length
  parCount : s.dm.parCount.toNat = l.length / 9
  stored : ∀ n b, l[n]? = some b → s.holdsBit n b

theorem Received.stored_of_concat (h : Received p (l ++ [b]) s) {n : Nat} {c : Bool} (hn : l[n]? = some c) :
    n < l.length ∧ s.holdsBit n c := by
  have lt := (List.getElem?_eq_some_iff.1 hn).1
  exact ⟨lt, h.stored n c (by rwa [List.getElem?_append_left lt])⟩

/-- The logic 0 of the end of frame, stored as a data bit, is retracted. -/
theorem Received.retract_data (h : Received p (l ++ [false]) s) (data : l.length % 9 ≠ 8)
    (kind : s.dm.lastKind = .data) (prev : s.dm.prevBit = l.getLastD false) (i : Byte) :
    ∃ t, retract (s.windowPassed i) = .next t ∧ HoldsFrame l t := by
  have len : (l ++ [false]).length = l.length + 1 := List.length_append
  have bits : (s.windowPassed i).dm.bitCount.toNat = dataCount l.length + 1 := by
    rw [← dataCount_succ_of_data data, ← len]
    exact h.bitCount
  have pars : (s.windowPassed i).dm.parCount.toNat = l.length / 9 := h.parCount.trans (by omega)
  have fits : (s.windowPassed i).dm.bitCount.toNat ≤ (s.windowPassed i).bitcap :=
    (h.bitCount.trans_le h.fits).trans_eq h.bitcap_eq.symm
  have positive : 1 ≤ (s.windowPassed i).dm.bitCount.toNat := by omega
  refine ⟨_, retract_of_data h.typeA kind positive fits, prev, ?_, pars, fun n c hn => ?_⟩
  · exact (toNat_sub_one positive).trans (by omega)
  · obtain ⟨lt, holds⟩ := h.stored_of_concat hn
    refine holds.of_same (fun _ => rfl) fun earlier => ?_
    have before := dataCount_lt lt earlier
    rw [getLsbD_readBuf_withoutDataBit _ _ (Nat.mod_lt _ (by decide)), bits, if_neg (by omega)]
    rfl

/-- The logic 0 of the end of frame, stored as a parity bit, is retracted. -/
theorem Received.retract_parity (h : Received p (l ++ [false]) s) (parity : l.length % 9 = 8)
    (kind : s.dm.lastKind = .parity) (prev : s.dm.prevBit = l.getLastD false) (i : Byte) :
    ∃ t, retract (s.windowPassed i) = .next t ∧ HoldsFrame l t := by
  have len : (l ++ [false]).length = l.length + 1 := List.length_append
  have fits : dataCount l.length ≤ 8 * p.cap := by
    rw [← dataCount_succ_of_parity parity, ← len]
    exact h.fits
  have bits : (s.windowPassed i).dm.bitCount.toNat = dataCount l.length := by
    rw [← dataCount_succ_of_parity parity, ← len]
    exact h.bitCount
  have pars : (s.windowPassed i).dm.parCount.toNat = l.length / 9 + 1 := h.parCount.trans (by omega)
  have inCap : (s.windowPassed i).dm.parCount.toNat ≤ (s.windowPassed i).params.cap := by
    have params : (s.windowPassed i).params = p := h.params
    rw [dataCount_of_parity parity] at fits
    rw [pars, params]
    omega
  have positive : 1 ≤ (s.windowPassed i).dm.parCount.toNat := by omega
  refine ⟨_, retract_of_parity kind positive inCap, prev, bits, ?_, fun n c hn => ?_⟩
  · exact (toNat_sub_one positive).trans (by omega)
  · obtain ⟨lt, holds⟩ := h.stored_of_concat hn
    refine holds.of_same (fun earlier => ?_) fun _ => rfl
    rw [readPar_withoutParityBit, pars, if_neg (by omega)]
    rfl

/-- The logic 0 of the end of frame that finds no room is held, and nothing is retracted (R173). -/
theorem Received.retract_pending (h : Received p l s) (i j : Byte) :
    ∃ t, retract (State.windowPassed { s.windowPassed i with dm := (s.windowPassed i).dm.noteBit false .pending } j) =
      .next t ∧ HoldsFrame l t :=
  ⟨_, retract_of_unstored (.inr rfl), h.lastBit, h.bitCount, h.parCount, h.stored⟩

/-- The end of frame after the window of its logic 0. -/
theorem State.AtWindow.ends (h : u.AtWindow p) (hp : p.valid) (zero : u.dm.lastBit = false) {levels : List Bool}
    (ran : sampleTicks levels s = .next u)
    (back : ∀ i, ∃ t, retract (u.windowPassed i) = .next t ∧ HoldsFrame l t) :
    ∃ t, sampleTicks (levels ++ [true, true]) s = .next (endOfFrame .none t) ∧ HoldsFrame l t := by
  obtain ⟨i, run⟩ := h.sampleTicks_eof hp zero
  obtain ⟨t, retracts, holds⟩ := back i
  exact ⟨t, by rw [sampleTicks_append, ran, andThen_next, run t retracts], holds⟩

/-- After the bits of a frame, its end of frame leaves them and nothing else. -/
theorem Received.ends (h : Received p l s) (hp : p.valid) :
    ∃ t, sampleTicks ((millerPauses (l.getLastD false) false).map (!·) ++ [true, true]) s =
      .next (endOfFrame .none t) ∧ HoldsFrame l t := by
  obtain ⟨i, small, zero, run⟩ := h.sampleTicks_bit hp h.notPending false
  rw [h.lastBit] at run
  by_cases parity : l.length % 9 = 8
  · have received := h.withParityBit hp parity small zero
    exact received.toAtWindow.ends hp rfl (run _ (h.emit_parity parity i))
      (received.retract_parity parity rfl h.lastBit)
  · by_cases room : dataCount l.length < 8 * p.cap
    · have received := h.withDataBit hp parity room small zero
      exact received.toAtWindow.ends hp rfl (run _ (h.emit_data parity room i))
        (received.retract_data parity rfl h.lastBit)
    · have hd : (s.windowPassed i).dm.state = .samplingDataBit := h.state.trans (if_neg parity)
      have full : (s.windowPassed i).dm.bitCount.toNat = (s.windowPassed i).bitcap := by
        change s.dm.bitCount.toNat = s.bitcap
        rw [h.bitCount, h.bitcap_eq]
        exact Nat.le_antisymm h.fits (Nat.not_lt.1 room)
      have held : State.AtWindow p
          { s.windowPassed i with dm := (s.windowPassed i).dm.noteBit false .pending } :=
        { typeA := h.typeA, params := h.params, receiving := h.receiving, empty := ⟨rfl, rfl⟩
          idle := small, active := zero }
      exact held.ends hp rfl (run _ (emit_of_full hd full)) (h.retract_pending i)

theorem received_nil (typeA : s.proto = .typeA) (params : s.params = p)
    (start : s.dm = { state := .samplingDataBit, ssr := 0, ssrLen := 0, idleCnt := 0, bitCount := 0, parCount := 0,
                      lastBit := false, prevBit := false, lastKind := .none, errCause := .none }) :
    Received p [] s :=
  { typeA := typeA, params := params, receiving := .inl (by rw [start]), empty := by rw [start]; exact ⟨rfl, rfl⟩
    idle := by rw [start]; exact Nat.zero_le 2
    active := by rw [start]; nofun
    fits := Nat.zero_le _, state := by rw [start]; rfl
    bitCount := by rw [start]; rfl
    parCount := by rw [start]; rfl
    lastBit := by rw [start]; rfl
    notPending := by rw [start]; nofun
    stored := nofun }

end frames

/-- Settles O32: the bits one by one, by induction on the stream, and then the logic 0 and the Y of its end. -/
theorem millerFrameReceivedExactly : Obligations.MillerFrameReceivedExactly := by
  intro bits s typeA hp start fits
  have cap : s.bitcap = 8 * s.params.cap := by rw [State.bitcap, typeA]
  obtain ⟨t, ran, received⟩ := received_of_fits hp (received_nil typeA rfl start) bits (by rw [← cap]; exact fits)
  obtain ⟨u, ended, holds⟩ := received.ends hp
  refine ⟨endOfFrame .none u, ?_, rfl, rfl, rfl, holds.lastBit, holds.bitCount, holds.parCount,
    fun n b hn data => ?_, fun n b hn parity => ?_⟩
  · rw [frameLevels, millerLevels_concat, List.append_assoc, sampleTicks_append, ran, andThen_next, ended]
  · have := holds.stored n b hn
    rwa [State.holdsBit, if_neg data] at this
  · have := holds.stored n b hn
    rwa [State.holdsBit, if_pos parity] at this

end Sys2Proof.Machine

/-! The Load-Modulator's family: the tick of each state of a reply (R200 to R211), the cycle that takes one (R125), and
the length and the waveform of a whole reply (R213, R215). -/

namespace Sys2Proof.Machine

/-! ### The tick of each state (R201 to R211) -/

section ticks
variable {s : State}

theorem exec_evModTick (tick : s.modTickEnabled) : exec .evModTick s = modTick s :=
  ((execEvModTick_cases s).resolve_right fun off => off.1 tick).2

theorem modTick_of_frameDelayWait (h : s.lm.state = .frameDelayWait) :
    modTick s = .next (tickFrameDelayWait s) := by rw [modTick, h]

/-- The first tick of a reply moves the timer from MEASURE to PERIODIC (R115, R201). -/
theorem tickFrameDelayWait_of_measure (mode : s.mt.mode = .measure) : tickFrameDelayWait s = { s with
    lm := { s.lm with state := .bitGridAlign }
    mt := { s.mt with per := s.params.pAlign, mode := .periodic, cnt := 0, capEn := false } } := by
  rw [tickFrameDelayWait, setModPeriod_of_measure _ mode]
  rfl

theorem modTick_of_bitGridAlign (h : s.lm.state = .bitGridAlign) : modTick s = .next (tickBitGridAlign s) := by
  rw [modTick, h]

theorem modTick_of_startBit0 (h : s.lm.state = .startBit0) : modTick s = .next (tickStartBit0 s) := by
  rw [modTick, h]

theorem modTick_of_startBit1 (h : s.lm.state = .startBit1) : modTick s = .next (tickStartBit1 s) := by
  rw [modTick, h]

/-- The state after the DATA_BIT_0 tick that sends `b` (R205). -/
def State.dataBitSent (s : State) (b : Bool) : State := { s with
  out := { s.out with loadmod := s.firstHalfLevel b }
  lm := { s.lm with txCur := b, txAcc := s.lm.txAcc ^^ b, state := .dataBit1 } }

theorem modTick_of_dataBit0 (h : s.lm.state = .dataBit0) (inBuf : s.bitIndex s.lm.txPos < s.params.cap) :
    modTick s = .next (s.dataBitSent (s.txBit s.lm.txPos)) := by
  rw [modTick, h]
  exact if_neg inBuf.not_ge

theorem modTick_of_dataBit1 (h : s.lm.state = .dataBit1) : modTick s = .next (tickDataBit1 s) := by
  rw [modTick, h]

/-- The parity bit of the byte that has just been sent, from the source the reply was armed with (R207). -/
def State.parityBit (s : State) : Bool :=
  if s.lm.txOwnPar then s.readPar (s.lm.txPos.toNat / 8 - 1) else s.lm.txAcc

/-- PAR is read inside its bounds if the byte before the parity bit is one of the buffer's (R63, R207). -/
theorem modTick_of_parityBit0 (h : s.lm.state = .parityBit0)
    (inPar : s.lm.txOwnPar = true → 8 ≤ s.lm.txPos.toNat ∧ s.lm.txPos.toNat / 8 ≤ s.params.cap) :
    modTick s = .next (sendParity s.parityBit s) := by
  rw [modTick, h]
  change tickParityBit0 s = _
  unfold tickParityBit0 State.parityBit
  cases own : s.lm.txOwnPar with
  | false => rfl
  | true =>
    obtain ⟨complete, le⟩ := inPar own
    simp only [if_true, parIndexOf_toNat complete]
    exact if_neg (by omega)

theorem modTick_of_parityBit1 (h : s.lm.state = .parityBit1) : modTick s = .next (tickParityBit1 s) := by
  rw [modTick, h]

theorem modTick_of_stopBit0 (h : s.lm.state = .stopBit0) : modTick s = .next (tickStopBit0 s) := by
  rw [modTick, h]

theorem modTick_of_stopBit1 (h : s.lm.state = .stopBit1) : modTick s = .next (tickStopBit1 s) := by
  rw [modTick, h]

theorem modTick_of_finished (h : s.lm.state = .finished) : modTick s = .next (tickFinished s) := by
  rw [modTick, h]

end ticks

/-- Settles O34: the bit stands in an entry of BUF, and its level is that bit or, in Type F, the parameter's choice. -/
theorem dataBitTicks : Obligations.DataBitTicks := by
  intro b s tick
  rw [exec_evModTick tick]
  refine ⟨fun state typeA inBuf bit => ?_, fun state typeF inBuf bit => ?_, modTick_of_dataBit1⟩
  · have index : s.bitIndex s.lm.txPos = s.lm.txPos.toNat / 8 := by rw [State.bitIndex, typeA]
    have sent : s.txBit s.lm.txPos = b := by rw [State.txBit, index, State.bitOffset, typeA, bit]
    rw [modTick_of_dataBit0 state (by rwa [index]), sent, State.dataBitSent, State.firstHalfLevel, typeA]
  · have index : s.bitIndex s.lm.txPos = s.lm.txPos.toNat := by rw [State.bitIndex, typeF]
    have sent : s.txBit s.lm.txPos = b := by rw [State.txBit, index, State.bitOffset, typeF, bit]
    rw [modTick_of_dataBit0 state (by rwa [index]), sent, State.dataBitSent, State.firstHalfLevel, typeF]

/-- Settles O35: the first half by the source of the parity bit. -/
theorem parityBitTicks : Obligations.ParityBitTicks := by
  intro s tick
  rw [exec_evModTick tick]
  refine ⟨fun state own complete inPar => ?_, fun state accumulated => ?_, modTick_of_parityBit1⟩
  · rw [modTick_of_parityBit0 state fun _ => ⟨complete, inPar⟩, State.parityBit, if_pos own]
    rfl
  · have noPar : s.lm.txOwnPar ≠ true := Bool.eq_false_iff.1 accumulated
    rw [modTick_of_parityBit0 state fun own => absurd own noPar, State.parityBit, if_neg noPar]
    rfl

/-- Settles O36: the invariant's own step lemma gives the state, and the frame of a tick what it leaves. -/
theorem modTickCompletes : Obligations.ModTickCompletes := by
  intro s inv
  rcases execEvModTick_cases s with ⟨tick, e⟩ | ⟨-, e⟩
  · obtain ⟨t, ht, -⟩ := modTick_keeps inv.inCycle tick.1
    refine ⟨t, e.trans ht, ?_⟩
    rw [modTick_frame ht]
    exact ⟨rfl, rfl, rfl, rfl, rfl, rfl, rfl, rfl, rfl, rfl, rfl, rfl, rfl, rfl, rfl, rfl⟩
  · exact ⟨s, e, rfl, rfl, rfl, rfl, rfl, rfl, rfl, rfl, rfl, rfl, rfl, rfl, rfl, rfl, rfl, rfl⟩

/-! ### The cycle that takes a tick (R101, R125) -/

section cycle
variable {s : State} {pin : Bool}

/-- In MEASURE mode the count reaches the match when it becomes MT_CMP (R106). -/
theorem modMatch_countModulation_of_measure (mode : s.mt.mode = .measure) :
    (countModulation s).modMatch = true ↔ s.mt.cnt + 1 = s.mt.cmp := by
  have measuring : (countModulation s).mt.mode = .measure := by rw [countModulation_frame]; exact mode
  rw [modMatch_of_measure measuring, countModulation_of_measure mode]

/-- In PERIODIC mode the count reaches the match when it wraps (R106). -/
theorem modMatch_countModulation_of_periodic (mode : s.mt.mode = .periodic) (clear : s.sig = .clear) :
    (countModulation s).modMatch = true ↔ s.mt.per.toNat ≤ s.mt.cnt.toNat + 1 := by
  have periodic : (countModulation s).mt.mode = .periodic := by rw [countModulation_frame]; exact mode
  rw [modMatch_of_periodic periodic]
  by_cases wraps : s.mt.per.toNat ≤ s.mt.cnt.toNat + 1
  · simp [countModulation_of_wrap mode wraps, wraps]
  · simp [countModulation_of_lt mode (Nat.not_le.1 wraps), wraps, clear, CycleSignals.clear]

theorem phaseMod_of_match (tick : s.modTickEnabled) (hit : s.modMatch = true) : phaseMod s = modTick s := by
  obtain ⟨on, en, ie⟩ := tick
  exact if_pos (by simp [on, en, ie, hit])

theorem phaseMod_of_noMatch (noHit : ¬ s.modMatch = true) : phaseMod s = .next s := if_neg (by simp [noHit])

section receiverOff
variable (silent : s.betweenCycles) (timerOff : s.st.en = false) (edgeIe : s.edgeIe = false)
  (capEn : s.mt.capEn = false) (tick : s.modTickEnabled)
include silent timerOff edgeIe capEn tick

/-- With no host word and the receiver off, phases 2 to 4 only count the Modulation Timer and shift the synchroniser
(R101). -/
theorem cycle_of_receiverOff : cycle pin s =
    andThen (phaseMod (shiftSync pin (countModulation s))) fun t => .next (endCycle t.subcarrierStepped) := by
  obtain ⟨sig, hop⟩ := silent
  obtain ⟨on, en, -⟩ := tick
  have clear : clearSignals s = s := by rw [clearSignals, ← sig]
  have host : phaseHost s = s := by rw [phaseHost, hop]
  have counts : phaseCountModulation s = countModulation s := if_pos (by simp [on, en])
  have noSample : phaseSample (shiftSync pin (countModulation s)) = .next (shiftSync pin (countModulation s)) := by
    rw [phaseSample, countModulation_frame]
    exact if_neg (by simp [timerOff])
  rw [cycle, clear, host, blockPhases, earlyPhases_receiverOff pin s timerOff edgeIe capEn, counts, noSample,
    andThen_next]
  simp only [subcarrierStep_eq]

/-- A cycle whose count reaches no match only counts and steps the subcarrier generator (R101, R106, R107). -/
theorem cycle_of_noMatch (noHit : ¬ (countModulation s).modMatch = true)
    (counts : countModulation s = { s with mt := { s.mt with cnt := s.mt.cnt + 1 } }) :
    cycle pin s = .next { State.subcarrierStepped { s with sense := pin, sync1 := pin, sync2 := s.sync1 } with
      mt := { s.mt with cnt := s.mt.cnt + 1 }, cycle := s.cycle + 1 } := by
  have noTick : phaseMod (shiftSync pin (countModulation s)) = .next (shiftSync pin (countModulation s)) :=
    phaseMod_of_noMatch noHit
  rw [cycle_of_receiverOff silent timerOff edgeIe capEn tick, noTick, andThen_next, counts, endCycle, clearSignals,
    ← silent.1]
  rfl

/-- A cycle whose count reaches the match takes the tick of the counted state (R101, R106). -/
theorem cycle_of_match (hit : (countModulation s).modMatch = true) : cycle pin s =
    andThen (modTick (shiftSync pin (countModulation s))) fun t => .next (endCycle t.subcarrierStepped) := by
  have enabled : (shiftSync pin (countModulation s)).modTickEnabled := by rw [countModulation_frame]; exact tick
  rw [cycle_of_receiverOff silent timerOff edgeIe capEn tick, phaseMod_of_match enabled hit]

end receiverOff

/-- The signal that lets a tick through does not outlive its cycle (R101). -/
theorem modTick_withSig {a : State} (signalled : a = { s with sig := a.sig }) (tick : s.modTickEnabled)
    (clear : s.sig = .clear) : (andThen (modTick a) fun t => .next (endCycle t.subcarrierStepped)) =
      andThen (exec .evModTick s) fun t => .next { t.subcarrierStepped with cycle := s.cycle + 1 } := by
  rw [exec_evModTick tick, signalled, modTick_sig, andThen_andThen]
  cases h : modTick s with
  | next t =>
    have sig : t.sig = .clear := by rw [modTick_frame h]; exact clear
    have number : t.cycle = s.cycle := by rw [modTick_frame h]
    rw [andThen_next, andThen_next, andThen_next, endCycle, clearSignals, ← sig, ← number]
    rfl
  | fault r => rfl
  | refused r => rfl

end cycle

/-- Settles O33: each tick as its equation, and in a cycle the count alone decides whether one is taken. -/
theorem fixedPatternTicks : Obligations.FixedPatternTicks := by
  intro s tick
  rw [exec_evModTick tick]
  refine ⟨fun state => ?_, fun state mode => ?_, fun state mode => ?_, modTick_of_startBit0, modTick_of_startBit1,
    modTick_of_stopBit0, modTick_of_stopBit1, modTick_of_finished, fun silent timerOff edgeIe capEn pin u hu => ?_⟩
  · rw [modTick_of_frameDelayWait state]
    cases mode : s.mt.mode with
    | measure => rw [tickFrameDelayWait_of_measure mode]; rfl
    | periodic => rw [tickFrameDelayWait, setModPeriod_of_periodic _ mode]; rfl
  · rw [modTick_of_bitGridAlign state, tickBitGridAlign, setModPeriod_of_periodic _ mode]; rfl
  · rw [modTick_of_bitGridAlign state, tickBitGridAlign, setModPeriod_of_measure _ mode]; rfl
  subst hu
  refine ⟨fun state mode due => ?_, fun mode early => ?_, fun mode wraps => ?_, fun mode early => ?_⟩
  · have hit := (modMatch_countModulation_of_measure mode).2 due
    have waiting : (shiftSync pin (countModulation s)).lm.state = .frameDelayWait ∧
        (shiftSync pin (countModulation s)).mt.mode = .measure := by
      rw [countModulation_frame]; exact ⟨state, mode⟩
    refine (cycle_of_match silent timerOff edgeIe capEn tick hit).trans ?_
    rw [modTick_of_frameDelayWait waiting.1, tickFrameDelayWait_of_measure waiting.2, countModulation_of_measure mode,
      andThen_next, endCycle, clearSignals, ← silent.1, ← capEn]
    rfl
  · exact cycle_of_noMatch silent timerOff edgeIe capEn tick
      (mt (modMatch_countModulation_of_measure mode).1 early) (countModulation_of_measure mode)
  · have hit := (modMatch_countModulation_of_periodic mode silent.1).2 wraps
    refine (cycle_of_match silent timerOff edgeIe capEn tick hit).trans ?_
    rw [countModulation_of_wrap mode wraps]
    exact modTick_withSig rfl tick silent.1
  · exact cycle_of_noMatch silent timerOff edgeIe capEn tick
      (mt (modMatch_countModulation_of_periodic mode silent.1).1 early.not_ge) (countModulation_of_lt mode early)

/-! ### A whole reply (R213, R215)

The run of a reply is followed from data bit to data bit: `SentBits s i t` says where the serialiser stands in `t`, when
the first `i` data bits of the reply armed in `s` have been sent, with the parity bits of the complete bytes. -/

section reply
variable {s t u : State} {i k m : Nat}

/-! #### Runs of ticks -/

theorem modTicks_add (k m : Nat) (s : State) : modTicks (k + m) s = andThen (modTicks k s) (modTicks m) := by
  induction k generalizing s with
  | zero => rw [Nat.zero_add, modTicks, andThen_next]
  | succ k ih =>
    have later : modTicks (k + m) = fun t => andThen (modTicks k t) (modTicks m) := funext ih
    rw [Nat.succ_add, modTicks, modTicks, andThen_andThen, later]

theorem modTicks_succ_of_next (run : modTicks k s = .next t) (tick : modTick t = .next u) :
    modTicks (k + 1) s = .next u := by
  rw [modTicks_add, run, andThen_next, modTicks, tick, andThen_next, modTicks]

/-- What a run of ticks can write (R200, R216). -/
theorem modTicks_frame (run : modTicks k s = .next t) : t = { s with
    lm := { t.lm with txBits := s.lm.txBits, txOwnPar := s.lm.txOwnPar }
    out := t.out, mt := t.mt, modDone := t.modDone } := by
  induction k generalizing s with
  | zero => cases run; rfl
  | succ k ih =>
    obtain ⟨u, first, rest⟩ := andThen_eq_next run
    rw [ih rest, modTick_frame first]

theorem modTicks_of_idle (idle : s.lm.state = .idle) (k : Nat) : modTicks k s = .next s := by
  induction k with
  | zero => rfl
  | succ k ih => rw [modTicks, modTick_of_inert (l := 0) (.inr idle), andThen_next, ih]

/-- MOD_DONE is set by the tick that ends the reply, and by no other (R211). -/
theorem modTick_modDone (tick : modTick s = .next t) (replying : t.replying) : t.modDone = s.modDone := by
  unfold modTick at tick
  cases state : s.lm.state <;> rw [state] at tick <;> dsimp only at tick
  case frameDelayWait => cases tick; rw [tickFrameDelayWait, setModPeriod_frame]; rfl
  case bitGridAlign => cases tick; rw [tickBitGridAlign, setModPeriod_frame]; rfl
  case dataBit0 =>
    unfold tickDataBit0 at tick
    split at tick
    · cases tick
    · cases tick; rfl
  case parityBit0 =>
    unfold tickParityBit0 at tick
    dsimp only at tick
    split_ifs at tick
    · cases tick; rfl
    · cases tick; rfl
  case finished => cases tick; exact absurd rfl replying
  all_goals cases tick; rfl

/-- As long as a later tick finds the reply in flight, it has not ended: IDLE is not left again (R200, R211). -/
theorem modTicks_replying (run : modTicks (k + m) s = .next u) (replying : u.replying) :
    ∃ t, modTicks k s = .next t ∧ t.replying := by
  rw [modTicks_add] at run
  obtain ⟨t, early, late⟩ := andThen_eq_next run
  refine ⟨t, early, fun idle => replying ?_⟩
  rw [modTicks_of_idle idle] at late
  cases late
  exact idle

theorem modTicks_modDone (run : modTicks k s = .next t) (replying : t.replying) : t.modDone = s.modDone := by
  induction k generalizing s with
  | zero => cases run; rfl
  | succ k ih =>
    obtain ⟨u, first, rest⟩ := andThen_eq_next run
    have before : u.replying := fun idle => by
      rw [modTicks_of_idle idle] at rest
      cases rest
      exact replying idle
    rw [ih rest, modTick_modDone first before]

/-! #### Where the serialiser stands after `i` data bits -/

/-- A reply of a legal length waits for its first tick (R243). -/
structure State.ReplyArmed (s : State) : Prop where
  params : s.params.valid
  state : s.lm.state = .frameDelayWait
  start : s.lm.txPos = 0
  nonempty : 1 ≤ s.lm.txBits.toNat
  fits : s.lm.txBits.toNat ≤ s.bitcap

/-- The half-bits of the first `i` data bits and of the parity bits of the complete bytes among them (R213). -/
def sentHalfBits : Protocol → Nat → Nat
  | .typeA, i => 2 * i + 2 * (i / 8)
  | .typeF, i => 2 * i

theorem halfBits_eq (p : Protocol) (n : Nat) : halfBits p n = 2 + sentHalfBits p n + 2 := by
  cases p
  · rw [halfBits, sentHalfBits, ← Nat.add_assoc]
  · rfl

theorem sentHalfBits_succ_of_noParity {p : Protocol} (h : ¬ (p = .typeA ∧ (i + 1) % 8 = 0)) :
    sentHalfBits p (i + 1) = sentHalfBits p i + 2 := by
  cases p with
  | typeA =>
    have inByte : (i + 1) % 8 ≠ 0 := fun full => h ⟨rfl, full⟩
    simp only [sentHalfBits]
    omega
  | typeF => rfl

theorem sentHalfBits_succ_of_parity (full : (i + 1) % 8 = 0) :
    sentHalfBits .typeA (i + 1) = sentHalfBits .typeA i + 4 := by
  simp only [sentHalfBits]
  omega

/-- The odd parity of the first `j` bits of an entry, as TX_ACC accumulates it from its start at 1 (R205, R208). -/
def accumulated (v : Byte) (j : Nat) : Bool := (List.range j).foldl (fun acc j => acc ^^ v.getLsbD j) true

theorem accumulated_succ (v : Byte) (j : Nat) : accumulated v (j + 1) = (accumulated v j ^^ v.getLsbD j) := by
  rw [accumulated, List.range_succ, List.foldl_append]
  rfl

/-- The first `i` data bits of the reply armed in `s` have been sent, and `t` is the state then. -/
structure SentBits (s : State) (i : Nat) (t : State) : Prop where
  run : modTicks (4 + sentHalfBits s.proto i) s = .next t
  state : t.lm.state = if i = s.lm.txBits.toNat then .stopBit0 else .dataBit0
  txPos : t.lm.txPos.toNat = i
  txAcc : s.proto = .typeA → s.lm.txAcc = true → t.lm.txAcc = accumulated (s.readBuf (i / 8)) (i % 8)

theorem setModPeriod_lm (p : Half) (s : State) : (setModPeriod p s).lm = s.lm := by rw [setModPeriod_frame]

/-- The four ticks before the first data bit (R201 to R204). -/
theorem State.ReplyArmed.sentBits_zero (armed : s.ReplyArmed) : ∃ t, SentBits s 0 t := by
  have lm : (tickStartBit1 (tickStartBit0 (tickBitGridAlign (tickFrameDelayWait s)))).lm =
      { s.lm with state := .dataBit0 } := by
    simp [tickStartBit1, tickStartBit0, tickBitGridAlign, tickFrameDelayWait, setModPeriod_lm]
  refine ⟨tickStartBit1 (tickStartBit0 (tickBitGridAlign (tickFrameDelayWait s))), ?_, ?_, ?_, fun _ start => ?_⟩
  · have nothing : sentHalfBits s.proto 0 = 0 := by cases s.proto <;> rfl
    have first : modTicks 1 s = .next (tickFrameDelayWait s) :=
      modTicks_succ_of_next (k := 0) rfl (modTick_of_frameDelayWait armed.state)
    have second := modTicks_succ_of_next first (modTick_of_bitGridAlign rfl)
    have third := modTicks_succ_of_next second (modTick_of_startBit0 rfl)
    rw [nothing]
    exact modTicks_succ_of_next third (modTick_of_startBit1 rfl)
  · have := armed.nonempty
    rw [lm, if_neg (by omega)]
  · rw [lm, armed.start]; rfl
  · rw [lm]; exact start

/-! #### The half-bits of one data bit, and of the parity bit after it -/

/-- The state after both half-bits of the next data bit (R205, R206). -/
def State.nextBitSent (s : State) : State := tickDataBit1 (s.dataBitSent (s.txBit s.lm.txPos))

theorem State.nextBitSent_state (s : State) : s.nextBitSent.lm.state =
    if s.proto = .typeA ∧ (s.lm.txPos + 1).toNat % 8 = 0 then .parityBit0
    else if s.lm.txPos + 1 = s.lm.txBits then .stopBit0 else .dataBit0 := rfl

theorem State.nextBitSent_txAcc (s : State) : s.nextBitSent.lm.txAcc = (s.lm.txAcc ^^ s.txBit s.lm.txPos) := rfl

/-- The state after both half-bits of the parity bit that follows (R207, R208). -/
def State.parityPairSent (s : State) : State := tickParityBit1 (sendParity s.parityBit s)

section bits
variable (sent : SentBits s i t) (armed : s.ReplyArmed)

include sent

theorem SentBits.proto_eq : t.proto = s.proto := by rw [modTicks_frame sent.run]

theorem SentBits.txBit_eq (typeA : s.proto = .typeA) :
    t.txBit t.lm.txPos = (s.readBuf (i / 8)).getLsbD (i % 8) := by
  have buf : t.readBuf (i / 8) = s.readBuf (i / 8) := by rw [modTicks_frame sent.run]; rfl
  rw [State.txBit, State.bitIndex, State.bitOffset, sent.proto_eq, typeA, sent.txPos, buf]

/-- In Type A the accumulated parity takes the bit in (R205). -/
theorem SentBits.nextBitSent_txAcc (typeA : s.proto = .typeA) (start : s.lm.txAcc = true) :
    t.nextBitSent.lm.txAcc = accumulated (s.readBuf (i / 8)) (i % 8 + 1) := by
  rw [State.nextBitSent_txAcc, sent.txAcc typeA start, sent.txBit_eq typeA, accumulated_succ]

include armed

/-- The two ticks of a data bit (R205, R206). -/
theorem SentBits.bit (more : i < s.lm.txBits.toNat) :
    modTicks (4 + sentHalfBits s.proto i + 1) s = .next (t.dataBitSent (t.txBit t.lm.txPos)) ∧
    modTicks (4 + sentHalfBits s.proto i + 2) s = .next t.nextBitSent := by
  have cap : t.bitcap = s.bitcap := by rw [modTicks_frame sent.run]; rfl
  have state : t.lm.state = .dataBit0 := by rw [sent.state, if_neg more.ne]
  have inBuf : t.bitIndex t.lm.txPos < t.params.cap :=
    bitIndex_lt_cap (by rw [sent.txPos, cap]; exact more.trans_le armed.fits)
  have first := modTicks_succ_of_next sent.run (modTick_of_dataBit0 state inBuf)
  exact ⟨first, modTicks_succ_of_next first (modTick_of_dataBit1 rfl)⟩

theorem SentBits.txPos_succ (more : i < s.lm.txBits.toNat) : (t.lm.txPos + 1).toNat = i + 1 := by
  have room := bitcap_le armed.params
  have fits := armed.fits
  rw [toNat_add_one (by rw [sent.txPos]; omega), sent.txPos]

/-- TX_POS has reached TX_BITS after the last data bit and not before (R206, R208). -/
theorem SentBits.last_iff (more : i < s.lm.txBits.toNat) :
    t.lm.txPos + 1 = t.lm.txBits ↔ i + 1 = s.lm.txBits.toNat := by
  have bits : t.lm.txBits = s.lm.txBits := by rw [modTicks_frame sent.run]
  rw [← BitVec.toNat_inj, sent.txPos_succ armed more, bits]

theorem SentBits.nextBitSent_state (more : i < s.lm.txBits.toNat) : t.nextBitSent.lm.state =
    if s.proto = .typeA ∧ (i + 1) % 8 = 0 then .parityBit0
    else if i + 1 = s.lm.txBits.toNat then .stopBit0 else .dataBit0 := by
  rw [State.nextBitSent_state]
  simp only [sent.proto_eq, sent.txPos_succ armed more, sent.last_iff armed more]

/-- The two ticks of the parity bit that closes a byte (R207, R208). -/
theorem SentBits.parity (more : i < s.lm.txBits.toNat) (typeA : s.proto = .typeA) (full : (i + 1) % 8 = 0) :
    modTicks (4 + sentHalfBits s.proto i + 3) s = .next (sendParity t.nextBitSent.parityBit t.nextBitSent) ∧
    modTicks (4 + sentHalfBits s.proto i + 4) s = .next t.nextBitSent.parityPairSent := by
  have state : t.nextBitSent.lm.state = .parityBit0 := by
    rw [sent.nextBitSent_state armed more, if_pos ⟨typeA, full⟩]
  have cap : t.nextBitSent.params.cap = s.params.cap := by
    change t.params.cap = _
    rw [modTicks_frame sent.run]
  have txPos : t.nextBitSent.lm.txPos.toNat = i + 1 := sent.txPos_succ armed more
  have fits := armed.fits
  simp only [State.bitcap, typeA] at fits
  have first := modTicks_succ_of_next (sent.bit armed more).2
    (modTick_of_parityBit0 state fun _ => by rw [txPos, cap]; omega)
  exact ⟨first, modTicks_succ_of_next first (modTick_of_parityBit1 rfl)⟩

/-- The parity bit of a byte is PAR's, or the parity of the whole byte (R207). -/
theorem SentBits.parityBit_eq (more : i < s.lm.txBits.toNat) (typeA : s.proto = .typeA) (full : (i + 1) % 8 = 0) :
    (s.lm.txOwnPar = true → t.nextBitSent.parityBit = s.readPar (i / 8)) ∧
    (s.lm.txOwnPar = false → s.lm.txAcc = true →
      t.nextBitSent.parityBit = accumulated (s.readBuf (i / 8)) 8) := by
  have own : t.nextBitSent.lm.txOwnPar = s.lm.txOwnPar := by
    change t.lm.txOwnPar = _
    rw [modTicks_frame sent.run]
  have txPos : t.nextBitSent.lm.txPos.toNat = i + 1 := sent.txPos_succ armed more
  have par (j : Nat) : t.nextBitSent.readPar j = s.readPar j := by
    change t.readPar j = _
    rw [modTicks_frame sent.run]
    rfl
  rw [State.parityBit, own, txPos, par]
  constructor
  · intro owns
    rw [if_pos owns]
    congr 1
    omega
  · intro computed start
    rw [if_neg (by simp [computed]), sent.nextBitSent_txAcc typeA start]
    congr 1
    omega

/-- One data bit more, with the parity bit if it completes a byte (R206, R208). -/
theorem SentBits.succ (more : i < s.lm.txBits.toNat) : ∃ u, SentBits s (i + 1) u := by
  have state := sent.nextBitSent_state armed more
  have txPos : t.nextBitSent.lm.txPos.toNat = i + 1 := sent.txPos_succ armed more
  by_cases closes : s.proto = .typeA ∧ (i + 1) % 8 = 0
  · obtain ⟨typeA, full⟩ := closes
    refine ⟨t.nextBitSent.parityPairSent, ?_, ?_, txPos, fun _ _ => ?_⟩
    · rw [typeA, sentHalfBits_succ_of_parity full, ← typeA]
      exact (sent.parity armed more typeA full).2
    · change (if t.lm.txPos + 1 = t.lm.txBits then LmState.stopBit0 else .dataBit0) = _
      simp only [sent.last_iff armed more]
    · rw [full]; rfl
  · refine ⟨t.nextBitSent, ?_, state.trans (if_neg closes), txPos, fun typeA start => ?_⟩
    · rw [sentHalfBits_succ_of_noParity closes]
      exact (sent.bit armed more).2
    · have inByte : (i + 1) % 8 ≠ 0 := fun full => closes ⟨typeA, full⟩
      have place : (i + 1) / 8 = i / 8 ∧ (i + 1) % 8 = i % 8 + 1 := by omega
      rw [place.1, place.2, sent.nextBitSent_txAcc typeA start]

end bits

theorem State.ReplyArmed.sentBits (armed : s.ReplyArmed) (le : i ≤ s.lm.txBits.toNat) : ∃ t, SentBits s i t := by
  induction i with
  | zero => exact armed.sentBits_zero
  | succ i ih =>
    obtain ⟨t, sent⟩ := ih (by omega)
    exact sent.succ armed le

/-- One tick before its end, a reply stands in FINISHED with every bit sent (R209, R210). -/
theorem State.ReplyArmed.finished (armed : s.ReplyArmed) :
    ∃ t, modTicks (halfBits s.proto s.lm.txBits.toNat + 2) s = .next t ∧ t.lm.state = .finished ∧
      t.lm.txPos = s.lm.txBits := by
  obtain ⟨t, sent⟩ := armed.sentBits Nat.le.refl
  have stop := modTicks_succ_of_next sent.run (modTick_of_stopBit0 (sent.state.trans (if_pos rfl)))
  refine ⟨tickStopBit1 (tickStopBit0 t), ?_, rfl, BitVec.eq_of_toNat_eq sent.txPos⟩
  have total : halfBits s.proto s.lm.txBits.toNat + 2 = 4 + sentHalfBits s.proto s.lm.txBits.toNat + 1 + 1 := by
    rw [halfBits_eq]; omega
  rw [total]
  exact modTicks_succ_of_next stop (modTick_of_stopBit1 rfl)

end reply

/-- Settles O37: the tick after FINISHED ends the reply, and none before it can have. -/
theorem replyTakesHPlusThreeTicks : Obligations.ReplyTakesHPlusThreeTicks := by
  intro s params state start nonempty fits
  obtain ⟨t, run, finished, txPos⟩ := State.ReplyArmed.finished ⟨params, state, start, nonempty, fits⟩
  have ends := modTicks_succ_of_next run (modTick_of_finished finished)
  refine ⟨⟨tickFinished t, ends, rfl, rfl, txPos, rfl, rfl, rfl⟩, fun k early => ?_⟩
  have replying : t.replying := by rw [State.replying, finished]; nofun
  obtain ⟨m, total⟩ := Nat.exists_eq_add_of_le (Nat.le_of_lt_succ early)
  rw [total] at run
  obtain ⟨u, ran, inFlight⟩ := modTicks_replying run replying
  exact ⟨u, ran, inFlight, modTicks_modDone ran inFlight⟩

/-- Settles O38: a bit's pair follows the bits before it, and a byte's parity pair its last bit. -/
theorem replyWaveformTypeA : Obligations.ReplyWaveformTypeA := by
  intro s params typeA state start acc nonempty fits
  have armed : s.ReplyArmed := ⟨params, state, start, nonempty, fits⟩
  have ticks (i : Nat) : 4 + sentHalfBits s.proto i = 4 + 2 * i + 2 * (i / 8) := by
    rw [typeA, sentHalfBits, Nat.add_assoc]
  constructor
  · intro i more
    obtain ⟨t, sent⟩ := armed.sentBits more.le
    obtain ⟨first, second⟩ := sent.bit armed more
    rw [ticks] at first second
    have level : (t.dataBitSent (t.txBit t.lm.txPos)).out.loadmod = (s.readBuf (i / 8)).getLsbD (i % 8) := by
      rw [State.dataBitSent, State.firstHalfLevel, sent.proto_eq, typeA]
      exact sent.txBit_eq typeA
    exact ⟨_, _, first, second, level, congrArg Bool.not level⟩
  · intro k complete
    have more : 8 * k + 7 < s.lm.txBits.toNat := by omega
    have place : (8 * k + 7) / 8 = k ∧ (8 * k + 7 + 1) % 8 = 0 := by omega
    obtain ⟨t, sent⟩ := armed.sentBits more.le
    obtain ⟨first, second⟩ := sent.parity armed more typeA place.2
    obtain ⟨own, computed⟩ := sent.parityBit_eq armed more typeA place.2
    have total : 4 + sentHalfBits s.proto (8 * k + 7) = 4 + 18 * k + 14 := by rw [ticks]; omega
    rw [total] at first second
    rw [place.1] at own computed
    exact ⟨_, _, _, first, second, own, fun noPar => computed noPar acc, rfl, rfl⟩

end Sys2Proof.Machine

/-! The host interface's family: the life-cycle words and the restart (R241, R242, R244), the reply's arming (R243), the
flags (R245), an accepted buffer access (R247 to R250), what a refused word leaves behind (R240), and the Controller's
TASK with its oracle (R251, R252). -/

namespace Sys2Proof.Machine

/-! ### The life-cycle words and the restart (R241, R242, R244) -/

/-- Settles O7: an accepted LC_INIT is a restart with the protocol just selected. -/
theorem initSelectsProtocolAndListens : Obligations.InitSelectsProtocolAndListens := by
  intro p s
  constructor
  · intro off
    have accept : hostLcInit p s = accepted (restart { s with proto := p, enabled := true }) := if_neg (by simp [off])
    rw [restart_eq] at accept
    exact congrArg Host.Outcome.next accept
  · intro on
    exact congrArg Host.Outcome.next (if_pos on)

/-- Settles O8: an accepted LC_DEINIT is the POR column, and touches nothing outside it. -/
theorem deinitGivesPowerOnRegisters : Obligations.DeinitGivesPowerOnRegisters := by
  intro s
  constructor
  · intro on
    have accept : hostLcDeinit s = accepted (deinit s) := if_pos on
    exact congrArg Host.Outcome.next accept
  · intro off
    exact congrArg Host.Outcome.next (if_neg (by simp [off]))

/-- Settles O9: an accepted CTL_RESTART_DEMOD is `restart`, which reads only the protocol and the parameters. -/
theorem restartGivesRstRegisters : Obligations.RestartGivesRstRegisters := by
  intro s
  constructor
  · intro on
    have accept : hostCtlRestartDemod s = accepted (restart s) := if_pos on
    rw [restart_eq] at accept
    exact congrArg Host.Outcome.next accept
  · intro off
    exact congrArg Host.Outcome.next (if_neg (by simp [off]))

/-! ### CTL_ARM_REPLY (R243) -/

section arm
variable {o : Bool} {n : Half} {s : State} {r : FaultReason}

theorem armRefusal_of_disabled (off : s.enabled = false) : s.armRefusal n = some .notEnabled := if_pos (by simp [off])

theorem armRefusal_of_badCount (on : s.enabled = true) (bad : n.toNat = 0 ∨ s.bitcap < n.toNat) :
    s.armRefusal n = some .badReplyCount := by
  rw [State.armRefusal, if_neg (by simp [on]), if_pos (by omega)]

theorem armRefusal_of_notReady (on : s.enabled = true) (pos : 1 ≤ n.toNat) (fits : n.toNat ≤ s.bitcap)
    (busy : s.dm.state ≠ .frameComplete ∨ s.lm.state ≠ .idle ∨ s.mt.en = false) :
    s.armRefusal n = some .armNotReady := by
  have notReady : s.armReady = false := by simpa [State.armReady, ← imp_iff_not_or] using busy
  rw [State.armRefusal, if_neg (by simp [on]), if_neg (by omega), if_pos (by simp [notReady])]

theorem exec_ctlArmReply_refused (refused : s.armRefusal n = some r) :
    exec (.ctlArmReply o n) s = .next (s.recorded r (encode (.ctlArmReply o n))) := by
  simp only [exec, execCtlArmReply, hostCtlArmReply, refused, recorded_eq_raiseFault]

theorem exec_ctlArmReply_accepted (ready : s.armRefusal n = none) :
    exec (.ctlArmReply o n) s = .next (accepted (armReply o n s)) := by
  simp only [exec, execCtlArmReply, hostCtlArmReply, ready]

end arm

/-- Settles O39: the check that fails first names the refusal, and a reply that passes all three is armed. -/
theorem ctlArmReply : Obligations.ArmReply := by
  intro o n s
  refine ⟨fun off => exec_ctlArmReply_refused (armRefusal_of_disabled off),
    fun on bad => exec_ctlArmReply_refused (armRefusal_of_badCount on bad),
    fun on pos fits busy => exec_ctlArmReply_refused (armRefusal_of_notReady on pos fits busy),
    fun on pos fits complete idle running => ?_⟩
  exact exec_ctlArmReply_accepted ((armRefusal_eq_none_iff s n).2 ⟨on, pos, fits, complete, idle, running⟩)

/-! ### CTL_CLEAR_FLAGS (R245) -/

/-- Settles O40: a flag is kept exactly when its clear is not asked for. -/
theorem clearFlags : Obligations.ClearFlags := by
  intro d m s
  have clear (flag c : Bool) : (flag && !c) = if c then false else flag := by cases c <;> simp
  simp only [exec, execCtlClearFlags, hostCtlClearFlags, accepted, State.clearFlags, clear]

/-! ### An accepted buffer access (R247 to R250) -/

theorem wordOfBit_eq (b : Bool) : wordOfBit b = if b then 1 else 0 := by cases b <;> rfl

/-- Settles O42: with its checks passed, an access is one read or one write of its memory. -/
theorem bufferAccess : Obligations.BufferAccess := by
  intro i d v s inRange receiverOff idle
  have allowed : s.bufRefusal i = none := (bufRefusal_eq_none_iff s i).2 ⟨inRange, receiverOff, idle⟩
  have bufWrite : exec (.bufWrite i d) s = .next (accepted (s.writeBuf i.toNat d)) := by
    simp only [exec, execBufWrite, hostBufWrite, allowed]
  have parWrite : exec (.parWrite i v) s = .next (accepted (s.writePar i.toNat v)) := by
    simp only [exec, execParWrite, hostParWrite, allowed]
  refine ⟨?_, ?_, ⟨_, bufWrite, s.readBuf_writeBuf_self _ d, fun _ other => s.readBuf_writeBuf_ne d other, rfl⟩,
    ⟨_, parWrite, s.readPar_writePar_self _ v, fun _ other => s.readPar_writePar_ne v other, rfl⟩⟩
  · simp only [exec, execBufRead, hostBufRead, allowed]
  · simp only [exec, execParRead, hostParRead, allowed, wordOfBit_eq]

/-! ### What a refused word leaves behind (R240) -/

theorem restart_faults (s : State) : (restart s).faults = s.faults := by rw [restart_eq]

/-- The operation of a word that decodes runs without a fault, or records the one of its own word. -/
theorem hostOperation_faults_or_recorded (i : Instr) (s : State) :
    (hostOperation (encode i) i s).faults = s.faults ∨
      ∃ r, hostOperation (encode i) i s = s.recorded r (encode i) := by
  cases i
  case lcInit p =>
    simp only [hostOperation, hostLcInit]
    split
    · exact .inr ⟨_, rfl⟩
    · exact .inl (restart_faults _)
  case lcDeinit =>
    simp only [hostOperation, hostLcDeinit]
    split
    · exact .inl rfl
    · exact .inr ⟨_, rfl⟩
  case ctlRestartDemod =>
    simp only [hostOperation, hostCtlRestartDemod]
    split
    · exact .inl (restart_faults s)
    · exact .inr ⟨_, rfl⟩
  case ctlClearFlags | ctlReadStatus => exact .inl rfl
  case ctlArmReply | bufRead | bufWrite | parRead | parWrite =>
    simp only [hostOperation, hostCtlArmReply, hostBufRead, hostBufWrite, hostParRead, hostParWrite]
    split
    · exact .inr ⟨_, rfl⟩
    · exact .inl rfl
  all_goals exact .inr ⟨.notHostOp, rfl⟩

/-- Settles O44: the port records the word it refuses, and an operation records its own word, which is the same. -/
theorem refusedHostWordChangesNothing : Obligations.RefusedHostWordChangesNothing := by
  intro w s
  rcases hostWord_cases w s with ⟨r, e⟩ | ⟨i, decoded, -, e⟩
  · exact .inr ⟨r, e⟩
  · obtain rfl := encode_of_decode decoded
    rw [e]
    exact hostOperation_faults_or_recorded i s

/-! ### The Controller's TASK and its oracle (R251, R252) -/

section task
variable {i : Instr} {s : State}

/-- What the Controller reads off STATUS, in terms of the registers it shows (R36). -/
theorem afterStatus_status (s : State) : afterStatus s.status =
    if s.demodDone then
      if s.dm.errCause ≠ .none ∨ s.dm.bitCount.toNat < 7 then .restartDue else .awaitingAp s.dm.bitCount
    else if s.modDone then .restartDue else .idle := by
  obtain ⟨demodDone, modDone, cause, -, -, -, -, -, -, -, bits, -, -⟩ := status_fields s
  have error : errCauseCode s.dm.errCause ≠ 0 ↔ s.dm.errCause ≠ .none := by cases s.dm.errCause <;> decide
  simp only [afterStatus, statusDemodDone, statusModDone, statusErrCause, statusBitCount, demodDone, modDone, cause,
    bits, Bool.or_eq_true, bne_iff_ne, decide_eq_true_eq, error, Config.minFrameBits]

/-- Every word of the TASK is one the host port takes. -/
theorem opClass_of_taskWord {phase : TaskPhase} (word : taskWord phase = some i) : i.opClass = .host := by
  cases phase <;> cases word <;> rfl

/-- Where a turn with a word leaves the TASK, told by what the port answered. -/
def taskAdvanced (s t : State) : Res := .next { t with task := taskAfter s.task (wasRefused s t) t.result }

theorem taskTurn_of_word (word : taskWord s.task = some i) (pin : Bool) :
    taskTurn pin s = andThen (hostPort pin (encode i) s) (taskAdvanced s) := by
  simp only [taskTurn, word]
  rfl

/-- At the cycle level a turn's word is phase 1 of a cycle of its own (R101, R251). -/
theorem taskTurn_cycleLevel (word : taskWord s.task = some i) (cycleLevel : s.view = .cycleLevel) (pin : Bool) :
    taskTurn pin s =
      andThen (andThen (exec i { s with sig := .clear, hop := none }) (blockPhases pin)) (taskAdvanced s) := by
  rw [taskTurn_of_word word,
    hostPort_of_decode_cycleLevel (decode_encode i) (opClass_of_taskWord word) cycleLevel]

/-- At the event level a turn's word is phase 1 alone (R109). -/
theorem taskTurn_eventLevel (word : taskWord s.task = some i) (eventLevel : s.view = .eventLevel) (pin : Bool) :
    taskTurn pin s = andThen (exec i s) fun t => taskAdvanced s { t with sig := .clear } := by
  rw [taskTurn_of_word word, hostPort_of_decode_eventLevel (decode_encode i) (opClass_of_taskWord word) eventLevel,
    andThen_andThen]
  rfl

theorem taskTurn_silent_cycleLevel (silent : taskWord s.task = none) (cycleLevel : s.view = .cycleLevel)
    (pin : Bool) : taskTurn pin s = blockPhases pin { s with sig := .clear, hop := none } := by
  have turn : taskTurn pin s = runCycle pin none s := by simp only [taskTurn, silent, idleTurn, cycleLevel]
  exact turn

theorem taskTurn_silent_eventLevel (silent : taskWord s.task = none) (eventLevel : s.view = .eventLevel)
    (pin : Bool) : taskTurn pin s = .next s := by
  simp only [taskTurn, silent, idleTurn, eventLevel]

theorem oracleAnswer_of_awaiting {n : Half} (asked : s.task = .awaitingAp n) (r : ApResponse) :
    oracleAnswer r s = .next { s with task := afterAnswer r } := by
  simp only [oracleAnswer, asked]

theorem oracleAnswer_of_unasked (unasked : ∀ n, s.task ≠ .awaitingAp n) (r : ApResponse) :
    oracleAnswer r s = .refused .unaskedAnswer := by
  unfold oracleAnswer
  split
  · rename_i n asked; exact absurd asked (unasked n)
  all_goals rfl

end task

/-- Settles O47: the registers that STATUS shows decide the poll, and a turn puts the TASK's next word on the host
port. -/
theorem taskContract : Obligations.TaskContract := by
  refine ⟨fun s => ?_, fun n o w => ?_, fun pin rest s next => ?_, fun r rest s next => ?_⟩
  · rw [afterStatus_status]
    refine ⟨fun demod bad => ?_, fun demod clean long => ?_, fun demod mod => ?_, fun demod mod => ?_⟩
    · rw [if_pos demod, if_pos bad]
    · rw [if_pos demod, if_neg (by simp [clean, long])]
    · rw [if_neg (by simp [demod]), if_pos mod]
    · rw [if_neg (by simp [demod]), if_neg (by simp [mod])]
  · exact ⟨rfl, rfl, rfl, rfl, fun _ => ⟨rfl, rfl⟩, rfl, rfl, rfl, rfl⟩
  · rw [step_of_inputs next]
    exact ⟨fun i word view => taskTurn_cycleLevel (s := { s with inputs := rest }) word view pin,
      fun i word view => taskTurn_eventLevel (s := { s with inputs := rest }) word view pin,
      fun silent view => taskTurn_silent_cycleLevel (s := { s with inputs := rest }) silent view pin,
      fun silent view => taskTurn_silent_eventLevel (s := { s with inputs := rest }) silent view pin⟩
  · rw [step_of_inputs next]
    exact ⟨fun n asked => oracleAnswer_of_awaiting (s := { s with inputs := rest }) asked r,
      fun unasked => oracleAnswer_of_unasked (s := { s with inputs := rest }) unasked r⟩

end Sys2Proof.Machine

/-! The family of exceptions: no fault record is ever lost (R285), only LC_INIT wakes the block (R294), and an edge comes
before the compare of its own cycle (R284). -/

namespace Sys2Proof.Machine

/-! ### What the handlers never write (R33, R283, R294) -/

/-- What no handler, and no phase of a cycle after the first, writes: ENABLED, PROTO and FAULTS. -/
structure HandlersKeep (s t : State) : Prop where
  enabled : t.enabled = s.enabled
  proto : t.proto = s.proto
  faults : t.faults = s.faults

section handlers
variable {i : Instr} {s t : State} {pin : Bool}

theorem blockPhases_handlersKeep (h : blockPhases pin s = .next t) : HandlersKeep s t := by
  obtain ⟨a, b, sample, mod, rfl⟩ := blockPhases_cases h
  rw [subcarrierStep_frame, phaseMod_frame mod, phaseSample_frame sample, earlyPhases_frame]
  exact ⟨rfl, rfl, rfl⟩

/-- An EVENT word runs handlers only, after the host operation of its cycle if it is EV_CLK (R101, R109). -/
theorem exec_event_handlersKeep (event : i.opClass = .event) (h : exec i s = .next t) :
    HandlersKeep s t ∨ ∃ pin, i = .evClk pin ∧ HandlersKeep (phaseHost (clearSignals s)) t := by
  have untouched : HandlersKeep s s := ⟨rfl, rfl, rfl⟩
  cases i
  case evClk pin => exact .inr ⟨pin, rfl, blockPhases_handlersKeep h⟩
  case evEdge =>
    change execEvEdge s = .next t at h
    unfold execEvEdge at h
    split at h <;> cases h
    · rw [onEdge_frame]; exact .inl ⟨rfl, rfl, rfl⟩
    · exact .inl untouched
  case evSampleTick v =>
    rcases execEvSampleTick_cases v s with ⟨-, e⟩ | ⟨-, e⟩ <;> rw [e] at h
    · rw [sampleTick_frame h]; exact .inl ⟨rfl, rfl, rfl⟩
    · cases h; exact .inl untouched
  case evModTick =>
    rcases execEvModTick_cases s with ⟨-, e⟩ | ⟨-, e⟩ <;> rw [e] at h
    · rw [modTick_frame h]; exact .inl ⟨rfl, rfl, rfl⟩
    · cases h; exact .inl untouched
  all_goals cases event

/-- An INTERNAL word runs one operation of the Timing Substrate, or records BAD_OPERAND (R285). -/
theorem exec_internal_handlersKeep (internal : i.opClass = .internal) (h : exec i s = .next t) :
    HandlersKeep s t ∨ t = s.recorded .badOperand (encode i) := by
  obtain ⟨bad, good⟩ := operandsChecked_exec internal s
  cases form : i.wellFormed with
  | false =>
    cases h.symm.trans (bad form)
    exact .inr rfl
  | true =>
    obtain ⟨u, hu, st, mt, edgeIe, out, result, rfl⟩ := good form
    cases h.symm.trans hu
    exact .inl ⟨rfl, rfl, rfl⟩

end handlers

/-! ### Waking the block (R23, R241, R242, R294) -/

section waking
variable {i : Instr} {s t : State}

/-- From `s` to `t` the block is woken by no instruction `i` but LC_INIT, and PROTO changes by no `i` but LC_INIT and
LC_DEINIT. -/
structure OnlyInitWakesBy (i : Instr) (s t : State) : Prop where
  enabled : s.enabled = false → t.enabled = true → ∃ p, i = .lcInit p
  proto : t.proto ≠ s.proto → i = .lcDeinit ∨ ∃ p, i = .lcInit p

theorem onlyInitWakesBy_of_kept (i : Instr) (enabled : t.enabled = s.enabled) (proto : t.proto = s.proto) :
    OnlyInitWakesBy i s t :=
  ⟨fun off on => by simp [← enabled, on] at off, fun changed => absurd proto changed⟩

theorem restart_lifeCycle (s : State) : (restart s).enabled = s.enabled ∧ (restart s).proto = s.proto := by
  rw [restart_eq]
  exact ⟨rfl, rfl⟩

theorem hostOperation_onlyInitWakesBy (w : Word) (i : Instr) (s : State) :
    OnlyInitWakesBy i s (hostOperation w i s) := by
  cases i
  case lcInit p => exact ⟨fun _ _ => ⟨p, rfl⟩, fun _ => .inr ⟨p, rfl⟩⟩
  case lcDeinit =>
    refine ⟨fun off on => ?_, fun _ => .inl rfl⟩
    have refused : hostOperation w .lcDeinit s = raiseFault .notEnabled (encode .lcDeinit) s := if_neg (by simp [off])
    simp [refused, off] at on
  case ctlRestartDemod =>
    simp only [hostOperation, hostCtlRestartDemod]
    split
    · exact onlyInitWakesBy_of_kept _ (restart_lifeCycle s).1 (restart_lifeCycle s).2
    · exact onlyInitWakesBy_of_kept _ rfl rfl
  case ctlArmReply | bufRead | bufWrite | parRead | parWrite =>
    simp only [hostOperation, hostCtlArmReply, hostBufRead, hostBufWrite, hostParRead, hostParWrite]
    split <;> exact onlyInitWakesBy_of_kept _ rfl rfl
  all_goals exact onlyInitWakesBy_of_kept _ rfl rfl

/-- In phase 1 of a cycle it is the instruction of the word on the host port that wakes the block. -/
theorem phaseHost_onlyInitWakesBy (s : State) :
    ((phaseHost s).enabled = s.enabled ∧ (phaseHost s).proto = s.proto) ∨
      ∃ i, s.hop = some (encode i) ∧ OnlyInitWakesBy i s (phaseHost s) := by
  unfold phaseHost
  split
  · exact .inl ⟨rfl, rfl⟩
  · rename_i w word
    rcases hostWord_cases w { s with hop := none } with ⟨r, e⟩ | ⟨i, decoded, -, e⟩ <;> rw [e]
    · exact .inl ⟨rfl, rfl⟩
    · obtain ⟨enabled, proto⟩ := hostOperation_onlyInitWakesBy w i { s with hop := none }
      exact .inr ⟨i, by rw [word, encode_of_decode decoded], enabled, proto⟩

/-- The instruction that wakes the block is the one that runs, or in a cycle the one on the host port. -/
theorem exec_onlyInitWakesBy (h : exec i s = .next t) :
    ∃ j, (i = j ∨ ∃ pin, i = .evClk pin ∧ s.hop = some (encode j)) ∧ OnlyInitWakesBy j s t := by
  cases cls : i.opClass with
  | host =>
    cases (exec_eq_hostOperation cls (encode i) s).symm.trans h
    exact ⟨i, .inl rfl, hostOperation_onlyInitWakesBy _ i s⟩
  | internal =>
    refine ⟨i, .inl rfl, ?_⟩
    rcases exec_internal_handlersKeep cls h with kept | rfl
    · exact onlyInitWakesBy_of_kept i kept.enabled kept.proto
    · exact onlyInitWakesBy_of_kept i rfl rfl
  | event =>
    rcases exec_event_handlersKeep cls h with kept | ⟨pin, rfl, kept⟩
    · exact ⟨i, .inl rfl, onlyInitWakesBy_of_kept i kept.enabled kept.proto⟩
    · rcases phaseHost_onlyInitWakesBy (clearSignals s) with ⟨enabled, proto⟩ | ⟨j, word, wakes, changes⟩
      · exact ⟨_, .inl rfl, onlyInitWakesBy_of_kept _ (kept.enabled.trans enabled) (kept.proto.trans proto)⟩
      · rw [← kept.enabled] at wakes
        rw [← kept.proto] at changes
        exact ⟨j, .inr ⟨pin, rfl, word⟩, wakes, changes⟩

end waking

/-- Settles O51: the handlers keep ENABLED and PROTO, so a change is the work of a host operation, alone or in
phase 1. -/
theorem onlyInitWakes : Obligations.OnlyInitWakes := by
  intro i s t h
  obtain ⟨j, runs, wakes, changes⟩ := exec_onlyInitWakesBy h
  constructor
  · intro off on
    obtain ⟨p, rfl⟩ := wakes off on
    exact ⟨p, runs⟩
  · intro changed
    exact ⟨j, changes changed, runs⟩

/-! ### FAULTS in every step (R33, R285) -/

/-- If `o` is a next state, the records of `l` are still the first of its FAULTS. -/
def KeepsFaults (l : List FaultRecord) : Res → Prop
  | .next t => l <+: t.faults
  | .fault _ | .refused _ => True

theorem keepsFaults_next (s : State) : KeepsFaults s.faults (.next s) := ⟨[], List.append_nil _⟩

theorem raiseFault_keepsFaults (r : FaultReason) (w : Word) (s : State) : s.faults <+: (raiseFault r w s).faults :=
  ⟨_, rfl⟩

/-- R240: a refused word adds one record, and an accepted one none. -/
theorem hostWord_keepsFaults (w : Word) (s : State) : s.faults <+: (hostWord w s).faults := by
  rcases refusedHostWordChangesNothing w s with same | ⟨r, refused⟩
  · rw [same]
  · rw [refused]; exact raiseFault_keepsFaults r w s

theorem phaseHost_keepsFaults (s : State) : s.faults <+: (phaseHost s).faults := by
  unfold phaseHost
  split
  · exact keepsFaults_next s
  · exact hostWord_keepsFaults _ { s with hop := none }

theorem exec_keepsFaults (i : Instr) (s : State) : KeepsFaults s.faults (exec i s) := by
  cases h : exec i s with
  | fault r => trivial
  | refused r => trivial
  | next t =>
    change s.faults <+: t.faults
    cases cls : i.opClass with
    | host =>
      cases (exec_eq_hostWord (decode_encode i) cls s).symm.trans h
      exact hostWord_keepsFaults _ s
    | internal =>
      rcases exec_internal_handlersKeep cls h with kept | rfl
      · rw [kept.faults]
      · exact raiseFault_keepsFaults _ _ s
    | event =>
      rcases exec_event_handlersKeep cls h with kept | ⟨-, -, kept⟩
      · rw [kept.faults]
      · rw [kept.faults]; exact phaseHost_keepsFaults (clearSignals s)

theorem runCycle_keepsFaults (pin : Bool) (hop : Option Word) (s : State) :
    KeepsFaults s.faults (runCycle pin hop s) :=
  exec_keepsFaults (.evClk pin) { s with hop := hop }

theorem hostPort_keepsFaults (pin : Bool) (w : Word) (s : State) : KeepsFaults s.faults (hostPort pin w s) := by
  unfold hostPort
  split
  · exact runCycle_keepsFaults pin _ s
  · exact hostWord_keepsFaults w s

theorem harnessPort_keepsFaults (w : Word) (s : State) : KeepsFaults s.faults (harnessPort w s) := by
  unfold harnessPort
  split
  · exact raiseFault_keepsFaults _ w s
  · trivial
  · trivial
  · split
    · exact raiseFault_keepsFaults _ w s
    · split
      · exact exec_keepsFaults _ s
      · trivial

theorem replayPort_keepsFaults (w : Word) (s : State) : KeepsFaults s.faults (replayPort w s) := by
  unfold replayPort
  split
  · exact raiseFault_keepsFaults _ w s
  · trivial
  · trivial
  · split
    · exact raiseFault_keepsFaults _ w s
    · exact exec_keepsFaults _ s

theorem taskTurn_keepsFaults (pin : Bool) (s : State) : KeepsFaults s.faults (taskTurn pin s) := by
  unfold taskTurn
  split
  · unfold idleTurn
    split
    · exact runCycle_keepsFaults pin none s
    · exact keepsFaults_next s
  · rename_i i _
    have kept := hostPort_keepsFaults pin (encode i) s
    cases ho : hostPort pin (encode i) s with
    | next t => rw [ho] at kept; exact kept
    | fault r => trivial
    | refused r => trivial

theorem oracleAnswer_keepsFaults (r : ApResponse) (s : State) : KeepsFaults s.faults (oracleAnswer r s) := by
  unfold oracleAnswer
  split
  · exact keepsFaults_next s
  all_goals trivial

theorem quietStep_keepsFaults (s : State) : KeepsFaults s.faults (quietStep s) := by
  unfold quietStep
  split
  · exact runCycle_keepsFaults _ none s
  · exact keepsFaults_next s

theorem takeInput_keepsFaults (x : Stimulus) (s : State) : KeepsFaults s.faults (takeInput x s) := by
  cases x with
  | cycle pin hop => exact runCycle_keepsFaults pin hop s
  | harness w => exact harnessPort_keepsFaults w s
  | host w => exact hostPort_keepsFaults s.sense w s
  | replay w => exact replayPort_keepsFaults w s
  | task pin => exact taskTurn_keepsFaults pin s
  | answer r => exact oracleAnswer_keepsFaults r s

theorem step_keepsFaults (s : State) : KeepsFaults s.faults (step s) := by
  unfold step
  split
  · exact quietStep_keepsFaults s
  · rename_i x rest _; exact takeInput_keepsFaults x { s with inputs := rest }

/-- Settles O54: FAULTS is written by `raiseFault` alone, which appends, and each port runs instructions and refusals. -/
theorem faultRecordsAreSticky : Obligations.FaultRecordsAreSticky := by
  intro s t h
  have kept := step_keepsFaults s
  rw [h] at kept
  exact kept

/-! ### An edge and a compare in one cycle (R101, R103, R105, R284) -/

section edge
variable {s : State} {pin : Bool}

/-- With no word on the host port a cycle is its phases 2 to 6 (R101). -/
theorem cycle_of_betweenCycles (silent : s.betweenCycles) : cycle pin s = blockPhases pin s := by
  obtain ⟨sig, hop⟩ := silent
  have clear : clearSignals s = s := by rw [clearSignals, ← sig]
  have host : phaseHost s = s := by rw [phaseHost, hop]
  rw [cycle, clear, host]

/-- The state after phases 2 and 3 of a cycle with an edge that no handler takes: the timers have counted, and then the
edge has restarted and captured them. -/
def State.afterEdge (s : State) (pin : Bool) : State := (s.afterCounts pin).relocked

/-- A restart takes the buffered period if there is one, and leaves none buffered (R103, R105). -/
theorem timerAfterEdge_of_restartEn (en : s.st.en = true) (restartEn : s.st.restartEn = true) :
    s.timerAfterEdge = { s.st with
      cnt := 0, per := if s.st.bufV = true then s.st.perBuf else s.st.per
      cc := if s.st.bufV = true then s.st.ccBuf else s.st.cc, bufV := false } := by
  rw [State.timerAfterEdge, if_pos ⟨en, restartEn⟩]
  split
  · rfl
  · rename_i empty; rw [← Bool.eq_false_iff.2 empty]

section locked
variable (on : s.enabled = true) (notFresh : s.sig.stFresh = false) (en : s.st.en = true)
  (restartEn : s.st.restartEn = true)

include on notFresh en restartEn in
/-- The restart makes the count of the same cycle invisible: a count that wraps has loaded the period that the restart
would load (R101, R103, R105). -/
theorem timerAfterEdge_afterCounts : (s.afterCounts pin).timerAfterEdge = s.timerAfterEdge := by
  have counted : (s.afterCounts pin).st = (phaseCountSampling s).st := by rw [afterCounts_frame]
  have st := phaseCountSampling_st on notFresh
  rw [State.timerAfterEdge, counted, st]
  by_cases goesOn : s.st.cnt.toNat + 1 < s.st.per.toNat
  · simp [en, restartEn, goesOn, State.timerAfterEdge]
  · cases pending : s.st.bufV <;> simp [en, restartEn, goesOn, pending, State.timerAfterEdge]

include on notFresh en restartEn in
theorem afterEdge_frame : s.afterEdge pin = { s with
    st := s.timerAfterEdge, mt := (s.afterEdge pin).mt, sig := (s.afterEdge pin).sig
    sense := pin, sync1 := pin, sync2 := s.sync1 } := by
  rw [State.afterEdge, State.relocked, timerAfterEdge_afterCounts on notFresh en restartEn, afterCounts_frame]

theorem afterEdge_modIe (s : State) (pin : Bool) : (s.afterEdge pin).mt.modIe = s.mt.modIe := by
  rw [State.afterEdge, State.relocked, afterCounts_frame]
  dsimp only
  split <;> rfl

include on in
/-- The capture sees the count of the same cycle (R101, R103). -/
theorem afterEdge_cap : (s.afterEdge pin).mt.cap =
    if s.mt.en = true ∧ s.mt.mode = .measure ∧ s.mt.capEn = true then s.mt.cnt + 1 else s.mt.cap := by
  have counted : (phaseCountSampling s).enabled = s.enabled ∧ (phaseCountSampling s).mt = s.mt := by
    rw [phaseCountSampling_frame]; exact ⟨rfl, rfl⟩
  have cnt : (s.afterCounts pin).mt.cnt = _ := phaseCountModulation_cnt (counted.1.trans on)
  rw [State.afterEdge, State.relocked, afterCounts_frame]
  dsimp only
  split
  · rename_i capture
    rw [cnt, counted.2, if_neg (by simp [capture.1]), if_neg (by simp [capture.2.1])]
  · rfl

variable (silent : s.betweenCycles) (high : s.sync2 = true) (low : s.sync1 = false) (noHandler : s.edgeIe = false)

include on high low noHandler in
theorem earlyPhases_of_unhandledEdge : earlyPhases pin s = s.afterEdge pin := by
  have counted : (phaseCountModulation (phaseCountSampling s)).sync2 = s.sync2 := by
    rw [phaseCountModulation_frame, phaseCountSampling_frame]
  have detected : earlyPhases pin s = onEdge (s.afterCounts pin) := by
    refine if_pos ?_
    change ((s.afterCounts pin).enabled && (_ && !(s.afterCounts pin).sync2)) = true
    rw [counted, afterCounts_frame]
    simp [on, high, low]
  have noHandler : (s.afterCounts pin).edgeIe = false := by rw [afterCounts_frame]; exact noHandler
  rw [detected, onEdge_eq, if_neg (by simp [noHandler]), State.afterEdge]

include on silent high low noHandler in
/-- A cycle with no host word, an edge that no handler takes and no modulation tick: what phase 4 leaves in the two
timers and the Demodulator stands at its end (R101). -/
theorem cycle_of_unhandledEdge {a : State} (sample : phaseSample (s.afterEdge pin) = .next a)
    (noTick : a.mt.modIe = false) : ∃ t, cycle pin s = .next t ∧ t.dm = a.dm ∧ t.st = a.st ∧ t.mt = a.mt := by
  refine ⟨endCycle (subcarrierStep a), ?_, ?_⟩
  · rw [cycle_of_betweenCycles silent, blockPhases, earlyPhases_of_unhandledEdge on high low noHandler, sample,
      andThen_next, phaseMod_of_off noTick, andThen_next]
  · rw [subcarrierStep_frame]
    exact ⟨rfl, rfl, rfl⟩

end locked

/-- With the count at 0 the compare matches exactly a compare value of 0 (R101). -/
theorem sampleMatch_of_cnt_zero (zero : s.st.cnt = 0) : s.sampleMatch = true ↔ s.st.cc = 0 := by
  simp only [State.sampleMatch, zero, Bool.and_eq_true, bne_iff_ne, beq_iff_eq]
  constructor
  · rintro ⟨-, h⟩; exact h.symm
  · rintro h; rw [h]; decide

theorem phaseSample_of_noMatch (noHit : ¬ s.sampleMatch = true) : phaseSample s = .next s := if_neg (by simp [noHit])

theorem phaseSample_of_match (tick : s.tickEnabled) (hit : s.sampleMatch = true) :
    phaseSample s = sampleTick s.readInput s := by
  obtain ⟨on, en, ie⟩ := tick
  exact if_pos (by simp [on, en, ie, hit])

end edge

/-- Settles O52: phase 4 compares with the timer that the edge of phase 3 has left at 0. -/
theorem edgeRestartPrecedesCompare : Obligations.EdgeRestartPrecedesCompare := by
  intro pin cc s on silent receiving en restartEn sampleIe noHandler modIe high low inForce
  have frame := afterEdge_frame (pin := pin) on (congrArg CycleSignals.stFresh silent.1) en restartEn
  have st : (s.afterEdge pin).st = { s.st with
      cnt := 0, per := if s.st.bufV = true then s.st.perBuf else s.st.per, cc := cc, bufV := false } := by
    rw [frame, inForce]; exact timerAfterEdge_of_restartEn en restartEn
  have matches0 : (s.afterEdge pin).sampleMatch = true ↔ cc = 0 := by
    rw [sampleMatch_of_cnt_zero (by rw [st]), st]
  have cap := afterEdge_cap (pin := pin) on
  have noTick := (afterEdge_modIe s pin).trans modIe
  have dm : (s.afterEdge pin).dm = s.dm := by rw [frame]
  have run {a : State} := cycle_of_unhandledEdge (pin := pin) (a := a) on silent high low noHandler
  constructor
  · intro nonzero
    obtain ⟨t, ht, dm', st', mt'⟩ := run (phaseSample_of_noMatch (mt matches0.1 nonzero)) noTick
    have timer : t.st = _ := st'.trans st
    refine ⟨t, ht, dm'.trans dm, ?_, ?_, ?_, (congrArg ModTimer.cap mt').trans cap⟩ <;> rw [timer]
  · intro zero opens active
    have tick : (s.afterEdge pin).tickEnabled := by
      rw [State.tickEnabled, st, frame]; exact ⟨on, en, sampleIe⟩
    have level : (s.afterEdge pin).readInput = false := by rw [State.readInput, frame]; exact low
    have sample : phaseSample (s.afterEdge pin) = .next (shiftSample false (s.afterEdge pin)) := by
      rw [phaseSample_of_match tick (matches0.2 zero), level]
      apply sampleTick_of_openWindow <;> rw [frame]
      · exact receiving
      · exact opens
      · exact active
    obtain ⟨t, ht, dm', st', -⟩ := run sample noTick
    have timer : t.st = _ := st'.trans st
    refine ⟨t, ht, ?_, ?_, ?_, ?_⟩
    · rw [dm', shiftSample_eq, dm]; rfl
    all_goals rw [timer]
    exact zero

end Sys2Proof.Machine

/-! Reset and what a restart forgets (R310, R312). -/

namespace Sys2Proof.Machine

/-! ### Power-on reset (R310) -/

/-- LOADMOD is 0 and SC_MODE is OFF after power-on, so that the block drives none of its outputs (R107, R108). -/
theorem por_outputs (p : Params) :
    (State.por p).loadEn = false ∧ (State.por p).scOut = false ∧ (State.por p).ant = false := ⟨rfl, rfl, rfl⟩

/-- Settles O6: each unit is its POR column, whatever the parameters; the outputs follow. -/
theorem powerOnValues : Obligations.PowerOnValues := by
  refine ⟨rfl, fun p => ?_⟩
  obtain ⟨loadEn, scOut, ant⟩ := por_outputs p
  exact ⟨rfl, rfl, rfl, rfl, rfl, rfl, rfl, rfl, rfl, rfl, rfl, rfl, rfl, rfl, loadEn, scOut, ant, rfl⟩

/-! ### The restart (R312) -/

section restart
variable {s s' t : State}

theorem exec_ctlRestartDemod_of_enabled (on : s.enabled = true) :
    exec .ctlRestartDemod s = .next (accepted (restart s)) := congrArg Host.Outcome.next (if_pos on)

/-- What an accepted restart leaves, read off its result. -/
theorem eq_restart_of_exec (on : s.enabled = true) (run : exec .ctlRestartDemod s = .next t) :
    t = accepted (restart s) := by
  rw [exec_ctlRestartDemod_of_enabled on] at run
  exact (Host.Outcome.next.inj run).symm

/-- The first period is all that a restart takes from the state before it, and it has it from the protocol and the
parameters. -/
theorem tFirst_congr (proto : s.proto = s'.proto) (params : s.params = s'.params) : s.tFirst = s'.tFirst := by
  rw [State.tFirst, State.tFirst, proto, params]

/-- A restart keeps ENABLED, PROTO and the parameters, the only fields it reads. -/
theorem accepted_restart_idem (s : State) :
    accepted (restart (accepted (restart s))) = accepted (restart s) := by
  rw [restart_eq s, restart_eq]
  rfl

end restart

/-- Settles O10: each register is a constant, or kept, or the first period; and nothing a restart reads is among what
it writes. -/
theorem restartForgetsHistory : Obligations.RestartForgetsHistory := by
  constructor
  · intro s s' t t' on on' proto params run run'
    have first := tFirst_congr proto params
    rw [eq_restart_of_exec on run, eq_restart_of_exec on' run', restart_eq, restart_eq, first]
    exact ⟨on.trans on'.symm, proto, rfl, rfl, rfl, rfl, rfl, rfl, rfl, rfl⟩
  · intro s on
    have kept : (accepted (restart s)).enabled = true := by rw [restart_eq]; exact on
    refine ⟨_, exec_ctlRestartDemod_of_enabled on, ?_⟩
    rw [exec_ctlRestartDemod_of_enabled kept, accepted_restart_idem]

end Sys2Proof.Machine
